-- ==== Sys2Proof/Word.lean ====
section
/-! DEFINITION. The value types of the engine (10_state.md R15) and the small enumerations every later file uses. -/

namespace Sys2Proof

/-- 8 bits; bit 0 is the least significant (00_scope.md R11). -/
abbrev Byte := BitVec 8
/-- A 7-bit device id (R15). -/
abbrev DevId := BitVec 7
/-- Position of `data[0]` within a device's block (R15). -/
abbrev Offset := BitVec 8
/-- `CNT_W` = 32 bits, used saturating (R15, R24). -/
abbrev Count := BitVec 32
/-- `TS_W` = 64 bits of milliseconds (R15, R151). -/
abbrev Time := BitVec 64
/-- The per-request retry count, 8 bits (R15). -/
abbrev RetryCnt := BitVec 8
abbrev ProductId := BitVec 8
abbrev ModelId := BitVec 8
abbrev Brand := BitVec 8
/-- Opaque callback identifier, 16 bits (R15). -/
abbrev CbId := BitVec 16
/-- A frame: byte 0 is the first byte on the wire (R11, R49). -/
abbrev Frame := List Byte

/-- `TypeId = {ext:1, val:16}`; equal only when both parts are equal (R15). -/
structure TypeId where
  ext : Bool
  val : BitVec 16
deriving DecidableEq, Repr

/-- A one-byte type, zero-extended (30_encoding.md R68). -/
def TypeId.ofByte (b : Byte) : TypeId := ⟨false, b.setWidth 16⟩

/-- The type `{0,0}` that a request carries where it has none (45_host_commands.md R161, R163). -/
def TypeId.zero : TypeId := ⟨false, 0⟩

/-- What a queued request currently is (R15, R19). -/
inductive Action where
  | read
  | write
  | validate
  | raw
deriving DecidableEq, Repr

/-- The control state (10_state.md R16). -/
inductive TxStatus where
  | idle
  | wait
deriving DecidableEq, Repr

/-- Scope of a handler entry (10_state.md R29). -/
inductive Scope where
  | common
  | modelSpecific
deriving DecidableEq, Repr

/-- Which slot or table (R15). -/
inductive Kind where
  | boiler
  | thermostat
deriving DecidableEq, Repr

/-- The error conditions 1 to 14 (60_exceptions.md R182). -/
inductive Condition where
  | frameTooShort
  | checksumMismatch
  | writeNacked
  | readMismatch
  | validateMismatch
  | readGaveUp
  | writeFailed
  | unknownType
  | busDisconnected
  | internalInconsistency
  | replyNotForUs
  | queueFull
  | badOperand
  | tableFull
deriving DecidableEq, Repr

/-- Response codes of the host commands (30_encoding.md R74). -/
inductive RespCode where
  | ok
  | queueFull
  | badOperand
  | tableFull
deriving DecidableEq, Repr

end Sys2Proof
end

