-- ==== Sys2Proof/Config.lean ====
section
/-! DEFINITION. The parameters of the engine (00_scope.md R8): the fixed constants, the OPEN ones as one plain-data
structure `Config` (carried in State, log 1), and the uninterpreted functions the spec leaves open (log 8, log 9). -/

namespace Sys2Proof

/-- Fixed: retry budget (R8, R30). -/
def maxRetries : Nat := 2
/-- Fixed: bus liveness threshold in ms (R8, R153). -/
def busTimeout : Nat := 15000
/-- Fixed: poll liveness threshold in ms (R8, R154). -/
def pollTimeout : Nat := 5000
/-- Fixed: type of the Version telegram (R8, R143). -/
def typeVersion : TypeId := ⟨false, 0x0002⟩
/-- Fixed: write-ack control byte (R8, R60). -/
def ackByte : Byte := 0x01
/-- Fixed: write-nack control byte (R8, R60). -/
def nackByte : Byte := 0x04
/-- Fixed: least value of frame byte 2 that selects the extended form (R8, R65). -/
def extMark : Nat := 0xF0
/-- Fixed: least length of a frame that is decoded (R8). -/
def minTelegramLen : Nat := 5
/-- Decided: initial checksum value (R8, 40_frame_codec.md R81). -/
def crcInit : Byte := 0x00

/-- One record of a device table (41_device_registry.md R95; the display name is read by no rule and omitted, log 24). -/
structure DeviceRecord where
  productId : ProductId
  typeId : DevId
  modelId : ModelId
  readSupported : Bool
  writeSupported : Bool
  brand : Brand
deriving DecidableEq, Repr

/-- One element of an initial burst: (type, dest, force_refresh) (41_device_registry.md R104). -/
structure BurstRead where
  type : TypeId
  dest : DevId
  forceRefresh : Bool
deriving DecidableEq, Repr

/-- One line of the function INIT_BURST written as a finite table (log 10). -/
structure BurstRow where
  kind : Kind
  record : DeviceRecord
  reads : List BurstRead
deriving DecidableEq, Repr

/-- Which function the OPEN parameter EXT_LAYOUT is: the unverified candidate of 93_implementation_defined.md G3, or
an uninterpreted one (30_encoding.md R66; log 8). -/
inductive ExtLayout where
  | candidateG3
  | uninterpreted (k : Nat)
deriving DecidableEq, Repr

/-- Which function the OPEN parameter VERSION_PARSE is: the default of 41_device_registry.md R103, or an uninterpreted
one (log 9). -/
inductive VersionParse where
  | standard
  | uninterpreted (k : Nat)
deriving DecidableEq, Repr

/-- Uninterpreted EXT_LAYOUT number `k`: from the frame, none or (type index, data index, offset). The constraints of
30_encoding.md R66 are imposed where it is used (`extLayout`, Machine/Frame.lean). Log 8. -/
opaque Config.openExtLayout : Nat → Frame → Option (Nat × Nat × Offset)

/-- Uninterpreted VERSION_PARSE number `k`: from offset and data, none or (product id, (major, minor)). Log 9. -/
opaque Config.openVersionParse : Nat → Offset → List Byte → Option (ProductId × (Byte × Byte))

/-- The OPEN parameters (R8), constant for a run (10_state.md R14). -/
structure Config where
  /-- `OWN_ID`. -/
  ownId : DevId
  /-- `CRC_TABLE`, the storage space CRCROM (20_memory.md R43). -/
  crcTable : List Byte
  /-- `EXT_LAYOUT`. -/
  extLayout : ExtLayout
  /-- `BOILER_TABLE`, the storage space BTAB (20_memory.md R47). -/
  boilerTable : List DeviceRecord
  /-- `THERMOSTAT_TABLE`, the storage space TTAB. -/
  thermostatTable : List DeviceRecord
  /-- `ID_NONE`. -/
  idNone : DevId
  /-- `VERSION_PARSE`. -/
  versionParse : VersionParse
  /-- `INIT_BURST` as a finite table; a pair it does not list has the empty burst (log 10). -/
  initBurst : List BurstRow
  /-- `PRECONF_BOILER_ID`. -/
  preconfBoilerId : DevId
  /-- `PRECONF_THERMOSTAT_ID`. -/
  preconfThermostatId : DevId
  /-- `READ_REQ_LEN`. -/
  readReqLen : Byte
  /-- `QUEUE_DEPTH`. -/
  queueDepth : Nat
  /-- `MAX_FRAME_LEN`. -/
  maxFrameLen : Nat
  /-- `HANDLER_SLOTS`. -/
  handlerSlots : Nat
deriving DecidableEq, Repr

/-- `MAX_PAYLOAD = MAX_FRAME_LEN - 5` (R8). -/
def Config.maxPayload (c : Config) : Nat := c.maxFrameLen - 5

/-- The default checksum table, row by row as 93_implementation_defined.md G1 prints it (general knowledge of the spec's
writer, not of the source; log 7). -/
def Config.defaultCrcRows : List (List Nat) :=
  [[0x00, 0x02, 0x04, 0x06, 0x08, 0x0A, 0x0C, 0x0E, 0x10, 0x12, 0x14, 0x16, 0x18, 0x1A, 0x1C, 0x1E],
   [0x20, 0x22, 0x24, 0x26, 0x28, 0x2A, 0x2C, 0x2E, 0x30, 0x32, 0x34, 0x36, 0x38, 0x3A, 0x3C, 0x3E],
   [0x40, 0x42, 0x44, 0x46, 0x48, 0x4A, 0x4C, 0x4E, 0x50, 0x52, 0x54, 0x56, 0x58, 0x5A, 0x5C, 0x5E],
   [0x60, 0x62, 0x64, 0x66, 0x68, 0x6A, 0x6C, 0x6E, 0x70, 0x72, 0x74, 0x76, 0x78, 0x7A, 0x7C, 0x7E]] ++
  [[0x80, 0x82, 0x84, 0x86, 0x88, 0x8A, 0x8C, 0x8E, 0x90, 0x92, 0x94, 0x96, 0x98, 0x9A, 0x9C, 0x9E],
   [0xA0, 0xA2, 0xA4, 0xA6, 0xA8, 0xAA, 0xAC, 0xAE, 0xB0, 0xB2, 0xB4, 0xB6, 0xB8, 0xBA, 0xBC, 0xBE],
   [0xC0, 0xC2, 0xC4, 0xC6, 0xC8, 0xCA, 0xCC, 0xCE, 0xD0, 0xD2, 0xD4, 0xD6, 0xD8, 0xDA, 0xDC, 0xDE],
   [0xE0, 0xE2, 0xE4, 0xE6, 0xE8, 0xEA, 0xEC, 0xEE, 0xF0, 0xF2, 0xF4, 0xF6, 0xF8, 0xFA, 0xFC, 0xFE]] ++
  [[0x19, 0x1B, 0x1D, 0x1F, 0x11, 0x13, 0x15, 0x17, 0x09, 0x0B, 0x0D, 0x0F, 0x01, 0x03, 0x05, 0x07],
   [0x39, 0x3B, 0x3D, 0x3F, 0x31, 0x33, 0x35, 0x37, 0x29, 0x2B, 0x2D, 0x2F, 0x21, 0x23, 0x25, 0x27],
   [0x59, 0x5B, 0x5D, 0x5F, 0x51, 0x53, 0x55, 0x57, 0x49, 0x4B, 0x4D, 0x4F, 0x41, 0x43, 0x45, 0x47],
   [0x79, 0x7B, 0x7D, 0x7F, 0x71, 0x73, 0x75, 0x77, 0x69, 0x6B, 0x6D, 0x6F, 0x61, 0x63, 0x65, 0x67]] ++
  [[0x99, 0x9B, 0x9D, 0x9F, 0x91, 0x93, 0x95, 0x97, 0x89, 0x8B, 0x8D, 0x8F, 0x81, 0x83, 0x85, 0x87],
   [0xB9, 0xBB, 0xBD, 0xBF, 0xB1, 0xB3, 0xB5, 0xB7, 0xA9, 0xAB, 0xAD, 0xAF, 0xA1, 0xA3, 0xA5, 0xA7],
   [0xD9, 0xDB, 0xDD, 0xDF, 0xD1, 0xD3, 0xD5, 0xD7, 0xC9, 0xCB, 0xCD, 0xCF, 0xC1, 0xC3, 0xC5, 0xC7],
   [0xF9, 0xFB, 0xFD, 0xFF, 0xF1, 0xF3, 0xF5, 0xF7, 0xE9, 0xEB, 0xED, 0xEF, 0xE1, 0xE3, 0xE5, 0xE7]]

/-- The default `CRC_TABLE` (G1). -/
def Config.defaultCrcTable : List Byte := Config.defaultCrcRows.flatten.map (BitVec.ofNat 8)

/-- The default configuration of R8. The spec gives no default for EXT_LAYOUT (uninterpreted here) and none for the two
device tables (empty here); PRECONF ids default to `ID_NONE`. Log 7. -/
def Config.default : Config where
  ownId := 0x0B
  crcTable := Config.defaultCrcTable
  extLayout := .uninterpreted 0
  boilerTable := []
  thermostatTable := []
  idNone := 0x00
  versionParse := .standard
  initBurst := []
  preconfBoilerId := 0x00
  preconfThermostatId := 0x00
  readReqLen := 32
  queueDepth := 20
  maxFrameLen := 32
  handlerSlots := 64

end Sys2Proof
end

