-- ==== Sys2Proof/Syntax.lean ====
section
/-! DEFINITION. The operations of the engine as one inductive `Instr` (one constructor per row of opcode_table.json), and
the data they carry: the Telegram view, the TxRequest, command operands and input events. -/

namespace Sys2Proof

/-- The Telegram view (10_state.md R17). -/
structure Telegram where
  src : DevId
  dest : DevId
  destRw : Bool
  type : TypeId
  offset : Offset
  data : List Byte
  checksumValid : Bool
deriving DecidableEq, Repr

/-- One queued unit of work (10_state.md R19), with the hidden fields of R20. -/
structure TxRequest where
  action : Action
  dest : DevId
  type : TypeId
  offset : Offset
  payload : List Byte
  validateType : TypeId
  compareOffset : Offset
  compareValue : Byte
  postReadType : TypeId
  forceRefresh : Bool
  retryCount : RetryCnt
  origOffset : Offset
  origPayload : List Byte
deriving DecidableEq, Repr

/-- The named operands of a host command (30_encoding.md R74); a command reads the ones its row names (log 16). `dest` and
`scope` are as wide as the checks of 45_host_commands.md R172 need. -/
structure CmdOperands where
  type : TypeId
  dest : Byte
  forceRefresh : Bool
  offset : Offset
  payload : List Byte
  validateType : TypeId
  bytes : List Byte
  scope : Byte
  cb : CbId
deriving DecidableEq, Repr

/-- Operands that are all zero or empty. -/
def CmdOperands.zero : CmdOperands := ⟨.zero, 0, false, 0, [], .zero, [], 0, 0⟩

/-- An input event (00_scope.md R9): a delivered frame, or a host command with its code; each with its `now`. -/
inductive Event where
  | rx (bytes : Frame) (now : Time)
  | cmd (code : Byte) (operands : CmdOperands) (now : Time)
deriving DecidableEq, Repr

/-- The result of CLASSIFY: the operation names of 30_encoding.md R58. -/
inductive RxOp where
  | rxEmpty
  | rxPoll
  | rxWack
  | rxWnack
  | rxOther1
  | rxNoise
  | rxBadcrc
  | rxTlgIdle
  | rxTlgWait
deriving DecidableEq, Repr

/-- The `code` operand of RETRY_OR_DROP (42_tx_state_machine.md R120). -/
inductive GiveUp where
  | readGaveUp
  | writeFailed
deriving DecidableEq, Repr

/-- The operations: one constructor per row of opcode_table.json, in the table's order. -/
inductive Instr where
  -- receive (30_encoding.md R58)
  | rxEmpty (now : Time)
  | rxPoll (now : Time)
  | rxWack (now : Time)
  | rxWnack (now : Time)
  | rxOther1 (b : Byte) (now : Time)
  | rxNoise (f : Frame) (now : Time)
  | rxBadcrc (f : Frame) (now : Time)
  | rxTlgIdle (t : Telegram) (now : Time)
  | rxTlgWaitNotOurs (t : Telegram) (now : Time)
  | rxTlgWaitRead (t : Telegram) (now : Time)
  | rxTlgWaitValidate (t : Telegram) (now : Time)
  | rxTlgWaitWrite (t : Telegram) (now : Time)
  | rxTlgWaitOther (t : Telegram) (now : Time)
  -- transmit formats (30_encoding.md R69 to R72)
  | txRd (dest : DevId) (type : Byte) (offset : Offset) (count : Byte)
  | txWr (dest : DevId) (type : Byte) (offset : Offset) (payload : List Byte)
  | txRaw (bytes : List Byte)
  | txAck
  -- host commands (30_encoding.md R74)
  | enqRead (type : TypeId) (dest : Byte) (forceRefresh : Bool) (now : Time)
  | enqWrite (type : TypeId) (dest : Byte) (offset : Offset) (payload : List Byte) (validateType : TypeId) (now : Time)
  | enqRaw (bytes : List Byte) (now : Time)
  | busStatus (now : Time)
  | regSnapshot (now : Time)
  | rescan (now : Time)
  | scan (now : Time)
  | clearQueue (now : Time)
  | resetCounters (now : Time)
  | regHandler (scope : Byte) (type : TypeId) (cb : CbId) (now : Time)
  | cmdIllegal (code : Byte) (now : Time)
  -- internal operations, no bit pattern (30_encoding.md R75)
  | checksum (bs : List Byte)
  | verify (f : Frame)
  | classify (f : Frame)
  | decodeHeaderS (f : Frame)
  | decodeHeaderX (f : Frame)
  | encodeRd (r : TxRequest)
  | encodeWr (r : TxRequest)
  | encodeRaw (r : TxRequest)
  | encodeAck
  | lookup (table : Kind) (id : ProductId)
  | onVersion (t : Telegram)
  | assign (kind : Kind) (record : DeviceRecord) (version : Byte × Byte)
  | scanDevices
  | sendHead
  | retryOrDrop (code : GiveUp)
  | createValidate
  | restoreWrite
  | dispatch (t : Telegram) (refresh : Bool)
  | connected (now : Time)
  | txCapable (now : Time)
deriving DecidableEq, Repr

end Sys2Proof
end

