-- ==== Sys2Proof/Machine/Frame.lean ====
section
/-! DEFINITION. The frame codec as pure functions of a frame and the configuration (40_frame_codec.md; formats of
30_encoding.md). The decoder (Decode.lean) and the meanings (Machine/Codec.lean, Machine/TxQueue.lean) share them. -/

namespace Sys2Proof.Machine

/-- One step of the running value: table lookup first, exclusive-or second (R81). -/
def crcStep (c : Config) (crc b : Byte) : Byte := c.crcTable.getD crc.toNat 0 ^^^ b

/-- A type the engine may transmit: `ext = 0`, `val <= 0xEF` (45_host_commands.md R172; 41_device_registry.md R104). -/
def transmittable (t : TypeId) : Bool := !t.ext && decide (t.val.toNat ≤ 0xEF)

/-- CHECKSUM(bs) (R81). -/
def checksum (c : Config) (bs : List Byte) : Byte := bs.foldl (crcStep c) crcInit

/-- VERIFY(f) (R83): the last byte is the checksum of all bytes before it. -/
def verify (c : Config) (f : Frame) : Bool := f.getLast? == some (checksum c f.dropLast)

/-- The engine's own id as a byte, bit 7 clear. -/
def ownByte (c : Config) : Byte := c.ownId.setWidth 8

/-- The byte that polls this engine, `OWN_ID | 0x80` (30_encoding.md R59). -/
def pollByte (c : Config) : Byte := ownByte c ||| 0x80

/-- A device id from a header byte: `b & 0x7F` (R62). -/
def devOf (b : Byte) : DevId := b.setWidth 7

/-- The read mark of header byte 1: `(b & 0x80) != 0` (R62, R63). -/
def readMark (b : Byte) : Bool := (b &&& 0x80) != 0

/-- Byte 2 is an extended marker: `f[2] >= 0xF0` (R65). -/
def isExtended (f : Frame) : Bool :=
  match f with
  | _ :: _ :: m :: _ => decide (extMark ≤ m.toNat)
  | _ => false

/-- What an extended header holds beyond bytes 0 to 2 (R66). -/
structure ExtHeader where
  val : BitVec 16
  offset : Offset
  data : List Byte
deriving DecidableEq, Repr

/-- An extended header with its type at `p`, `p+1` (big-endian) and its data from `d`, where the constraints of R66 (b)
hold: `4 <= p`, `p + 1 <= len(f) - 2`, `p + 2 <= d <= len(f) - 1`. -/
def placeExt (f : Frame) (p d : Nat) (off : Offset) : Option ExtHeader :=
  if 4 ≤ p ∧ p + 3 ≤ f.length ∧ p + 2 ≤ d ∧ d + 1 ≤ f.length then
    match f[p]?, f[p + 1]? with
    | some hi, some lo => some ⟨hi ++ lo, off, f.dropLast.drop d⟩
    | _, _ => none
  else none

/-- EXT_LAYOUT(f) (R66): the candidate of G3, or an uninterpreted function under the constraints of R66. -/
def extLayout (c : Config) (f : Frame) : Option ExtHeader :=
  match c.extLayout with
  | .candidateG3 =>
    match f with
    | _ :: b1 :: _ :: off :: _ =>
      let p := if readMark b1 then 5 else 4
      placeExt f p (p + 2) off
    | _ => none
  | .uninterpreted k =>
    match Config.openExtLayout k f with
    | some (p, d, off) => placeExt f p d off
    | none => none

/-- DECODE_HEADER(f), standard form (R86). -/
def decodeHeaderS (f : Frame) : Option Telegram :=
  match f with
  | b0 :: b1 :: b2 :: b3 :: rest =>
    some { src := devOf b0, dest := devOf b1, destRw := readMark b1, type := TypeId.ofByte b2, offset := b3,
           data := rest.dropLast, checksumValid := true }
  | _ => none

/-- DECODE_HEADER(f), extended form (R87); none when the header does not fit. -/
def decodeHeaderX (c : Config) (f : Frame) : Option Telegram :=
  match f with
  | b0 :: b1 :: _ =>
    (extLayout c f).map fun h =>
      { src := devOf b0, dest := devOf b1, destRw := readMark b1, type := ⟨true, h.val⟩, offset := h.offset,
        data := h.data, checksumValid := true }
  | _ => none

/-- DECODE_HEADER(f): the form byte 2 selects (R65). -/
def decodeHeader (c : Config) (f : Frame) : Option Telegram :=
  if isExtended f then decodeHeaderX c f else decodeHeaderS f

/-- A frame from the bytes before its checksum (R88 to R90). -/
def withChecksum (c : Config) (h : List Byte) : Frame := h ++ [checksum c h]

/-- Format TX-RD (30_encoding.md R69), `count` the payload byte. -/
def rdFrame (c : Config) (dest : DevId) (type : Byte) (offset : Offset) (count : List Byte) : Frame :=
  withChecksum c ([ownByte c, dest.setWidth 8 ||| 0x80, type, offset] ++ count)

/-- Format TX-WR (30_encoding.md R70). -/
def wrFrame (c : Config) (dest : DevId) (type : Byte) (offset : Offset) (payload : List Byte) : Frame :=
  withChecksum c ([ownByte c, dest.setWidth 8, type, offset] ++ payload)

/-- `type.val[7:0]`, the type byte of a transmitted header (R68). -/
def typeByte (t : TypeId) : Byte := t.val.setWidth 8

/-- ENCODE_RD(r) (R88). A payload that is not one byte occurs in no reachable state (log 12). -/
def encodeRd (c : Config) (r : TxRequest) : Frame := rdFrame c r.dest (typeByte r.type) r.offset (r.payload.take 1)

/-- ENCODE_WR(r) (R89). -/
def encodeWr (c : Config) (r : TxRequest) : Frame := wrFrame c r.dest (typeByte r.type) r.offset r.payload

/-- ENCODE_RAW(r) (R90). -/
def encodeRaw (c : Config) (r : TxRequest) : Frame := withChecksum c r.payload

/-- ENCODE_ACK() (R91): the one byte `OWN_ID`, no checksum. -/
def encodeAck (c : Config) : Frame := [ownByte c]

end Sys2Proof.Machine
end

