-- ==== Sys2Proof/WellFormed.lean ====
section
/-! DEFINITION. When an operation is well-formed: what can be checked on its operands and the configuration alone. What
depends on the state (the status, the head of the queue) is `selectedIn` in Decode.lean. -/

namespace Sys2Proof

open Machine

/-- A Telegram a decoder can produce (10_state.md R15, R17): checksum bit set, a one-byte type at most 0xEF, and data that
fit a frame. -/
def Telegram.wellFormed (c : Config) (t : Telegram) : Bool :=
  t.checksumValid && (t.type.ext || decide (t.type.val.toNat ≤ 0xEF)) &&
    decide (t.data.length + 5 ≤ c.maxFrameLen)

/-- A frame of telegram length that the transport may deliver (20_memory.md R41). -/
def telegramLength (c : Config) (f : Frame) : Bool :=
  decide (minTelegramLen ≤ f.length) && decide (f.length ≤ c.maxFrameLen)

/-- The operand condition of ENCODE_RD (40_frame_codec.md R88). -/
def TxRequest.readable (r : TxRequest) : Bool :=
  (r.action == .read || r.action == .validate) && decide (r.payload.length = 1) && transmittable r.type

/-- The operand condition of ENCODE_WR (40_frame_codec.md R89, R172). -/
def TxRequest.writable (c : Config) (r : TxRequest) : Bool :=
  r.action == .write && decide (1 ≤ r.payload.length) && decide (r.payload.length ≤ c.maxPayload) && transmittable r.type

/-- Well-formed operations. Host commands are all well-formed: an operand out of range is answered, not excluded
(45_host_commands.md R172). -/
def wellFormed (c : Config) (i : Instr) : Bool :=
  match i with
  | .rxEmpty _ => true
  | .rxPoll _ => true
  | .rxWack _ => true
  | .rxWnack _ => true
  | .rxOther1 b _ => b != pollByte c
  | .rxNoise f _ =>
    (decide (2 ≤ f.length) && decide (f.length < minTelegramLen) && decide (f.length ≤ c.maxFrameLen)) ||
      (telegramLength c f && verify c f && (decodeHeader c f).isNone)
  | .rxBadcrc f _ => telegramLength c f && !verify c f
  | .rxTlgIdle t _ => t.wellFormed c
  | .rxTlgWaitNotOurs t _ => t.wellFormed c && t.dest != c.ownId
  | .rxTlgWaitRead t _ => t.wellFormed c && t.dest == c.ownId
  | .rxTlgWaitValidate t _ => t.wellFormed c && t.dest == c.ownId
  | .rxTlgWaitWrite t _ => t.wellFormed c && t.dest == c.ownId
  | .rxTlgWaitOther t _ => t.wellFormed c
  | .txRd _ type _ _ => decide (type.toNat < extMark)
  | .txWr _ type _ payload =>
    decide (type.toNat < extMark) && decide (1 ≤ payload.length) && decide (payload.length ≤ c.maxPayload)
  | .txRaw bytes => decide (1 ≤ bytes.length) && decide (bytes.length + 1 ≤ c.maxFrameLen)
  | .txAck => true
  | .enqRead _ _ _ _ => true
  | .enqWrite _ _ _ _ _ _ => true
  | .enqRaw _ _ => true
  | .busStatus _ => true
  | .regSnapshot _ => true
  | .rescan _ => true
  | .scan _ => true
  | .clearQueue _ => true
  | .resetCounters _ => true
  | .regHandler _ _ _ _ => true
  | .cmdIllegal code _ => code == 0 || decide (0x0A < code.toNat)
  | .checksum _ => true
  | .verify f => decide (2 ≤ f.length)
  | .classify f => decide (f.length ≤ c.maxFrameLen)
  | .decodeHeaderS f => telegramLength c f && verify c f && !isExtended f
  | .decodeHeaderX f => telegramLength c f && verify c f && isExtended f
  | .encodeRd r => r.readable
  | .encodeWr r => r.writable c
  | .encodeRaw r => r.action == .raw
  | .encodeAck => true
  | .lookup _ _ => true
  | .onVersion t => t.wellFormed c && t.type == typeVersion
  | .assign _ _ _ => true
  | .scanDevices => true
  | .sendHead => true
  | .retryOrDrop _ => true
  | .createValidate => true
  | .restoreWrite => true
  | .dispatch t _ => t.wellFormed c
  | .connected _ => true
  | .txCapable _ => true

end Sys2Proof
end

