-- ==== Sys2Proof/Decode.lean ====
section
/-! DEFINITION. CLASSIFY and the decoders: an input event to the operation it selects (30_encoding.md R58, R74), a
transmitted frame to its format (R69 to R72), and after them the encoder. Total on any bytes; rejections have names. -/

namespace Sys2Proof

open Machine

/-- Why a decoder rejects. -/
inductive DecodeError where
  /-- A frame longer than `MAX_FRAME_LEN` (20_memory.md R41, 70_reset_and_hazards.md R209). -/
  | frameTooLong
  /-- Bytes that are no transmit format: not the poll-ack byte, or a last byte that is no checksum (30_encoding.md R69 to
  R72). -/
  | notATransmitFrame
deriving DecidableEq, Repr

/-- CLASSIFY(f, tx_status) (40_frame_codec.md R85): the rows of 30_encoding.md R58, top to bottom. -/
def classify (c : Config) (st : TxStatus) (f : Frame) : RxOp :=
  match f with
  | [] => .rxEmpty
  | [b] =>
    if b = pollByte c then .rxPoll
    else if b = ackByte ∧ st = .wait then .rxWack
    else if b = nackByte ∧ st = .wait then .rxWnack
    else .rxOther1
  | _ :: _ :: _ =>
    if f.length < minTelegramLen then .rxNoise
    else if verify c f = false then .rxBadcrc
    else if decodeHeader c f = none then .rxNoise
    else match st with
      | .idle => .rxTlgIdle
      | .wait => .rxTlgWait

/-- The case of RX_TLG_WAIT that `t.dest` and the head select (42_tx_state_machine.md R118; 30_encoding.md R73): the empty
queue first, then the telegram that is not ours, then the head's action. -/
def waitCase (c : Config) (head : Option TxRequest) (t : Telegram) (now : Time) : Instr :=
  match head with
  | none => .rxTlgWaitOther t now
  | some r =>
    if t.dest ≠ c.ownId then .rxTlgWaitNotOurs t now
    else match r.action with
      | .read => .rxTlgWaitRead t now
      | .validate => .rxTlgWaitValidate t now
      | .write => .rxTlgWaitWrite t now
      | .raw => .rxTlgWaitOther t now

/-- A checksum-valid frame of telegram length whose header fits (R58 rows 9 and 10). -/
def telegramCase (c : Config) (st : TxStatus) (head : Option TxRequest) (t : Telegram) (now : Time) : Instr :=
  match st with
  | .idle => .rxTlgIdle t now
  | .wait => waitCase c head t now

/-- A received frame of any length (R58). -/
def decodeFrame (c : Config) (st : TxStatus) (head : Option TxRequest) (f : Frame) (now : Time) : Instr :=
  match classify c st f with
  | .rxEmpty => .rxEmpty now
  | .rxPoll => .rxPoll now
  | .rxWack => .rxWack now
  | .rxWnack => .rxWnack now
  | .rxOther1 => .rxOther1 (f.headD 0) now
  | .rxNoise => .rxNoise f now
  | .rxBadcrc => .rxBadcrc f now
  | .rxTlgIdle | .rxTlgWait =>
    match decodeHeader c f with
    | some t => telegramCase c st head t now
    | none => .rxNoise f now

/-- A host command by its code (30_encoding.md R74); every other code is illegal. -/
def decodeCmd (code : Byte) (o : CmdOperands) (now : Time) : Instr :=
  if code = 0x01 then .enqRead o.type o.dest o.forceRefresh now
  else if code = 0x02 then .enqWrite o.type o.dest o.offset o.payload o.validateType now
  else if code = 0x03 then .enqRaw o.bytes now
  else if code = 0x04 then .busStatus now
  else if code = 0x05 then .regSnapshot now
  else if code = 0x06 then .rescan now
  else if code = 0x07 then .scan now
  else if code = 0x08 then .clearQueue now
  else if code = 0x09 then .resetCounters now
  else if code = 0x0A then .regHandler o.scope o.type o.cb now
  else .cmdIllegal code now

/-- The operation an input event selects, in a state whose status is `st` and whose head request is `head`. -/
def decodeEvent (c : Config) (st : TxStatus) (head : Option TxRequest) (e : Event) : Except DecodeError Instr :=
  match e with
  | .rx f now => if c.maxFrameLen < f.length then .error .frameTooLong else .ok (decodeFrame c st head f now)
  | .cmd code o now => .ok (decodeCmd code o now)

/-- Bytes with the header of a frame this engine assembles from a Read, Validate or Write (30_encoding.md R69, R70),
checksum left aside. -/
def headerForm (c : Config) (h : List Byte) : Option Instr :=
  match h with
  | b0 :: b1 :: b2 :: b3 :: b4 :: rest =>
    if b0 = ownByte c ∧ b2.toNat < extMark then
      if readMark b1 then
        if rest = [] then some (.txRd (devOf b1) b2 b3 b4) else none
      else some (.txWr (devOf b1) b2 b3 (b4 :: rest))
    else none
  | _ => none

/-- A transmitted frame to its format. TX-RAW carries any bytes, so a frame that also has the form of TX-RD or TX-WR is read
as that (log 17). -/
def decodeTx (c : Config) (f : Frame) : Except DecodeError Instr :=
  if c.maxFrameLen < f.length then .error .frameTooLong
  else match f with
    | [] => .error .notATransmitFrame
    | [b] => if b = ownByte c then .ok .txAck else .error .notATransmitFrame
    | _ :: _ :: _ =>
      if verify c f then
        match headerForm c f.dropLast with
        | some i => .ok i
        | none => .ok (.txRaw f.dropLast)
      else .error .notATransmitFrame

/-- In which states an operation is selected, or may be called: the state part of R58's rows, of R73, and the preconditions
of 42_tx_state_machine.md R110, R120, R125, R126. `head` is the head of the queue. -/
def selectedIn (c : Config) (st : TxStatus) (head : Option TxRequest) (i : Instr) : Bool :=
  match i with
  | .rxWack _ => st == .wait
  | .rxWnack _ => st == .wait
  | .rxOther1 b _ => st == .idle || (b != ackByte && b != nackByte)
  | .rxTlgIdle _ _ => st == .idle
  | .rxTlgWaitNotOurs t _ => st == .wait && head.isSome && t.dest != c.ownId
  | .rxTlgWaitRead t _ => st == .wait && head.any (·.action == .read) && t.dest == c.ownId
  | .rxTlgWaitValidate t _ => st == .wait && head.any (·.action == .validate) && t.dest == c.ownId
  | .rxTlgWaitWrite t _ => st == .wait && head.any (·.action == .write) && t.dest == c.ownId
  | .rxTlgWaitOther t _ => st == .wait && head.all (fun r => r.action == .raw && t.dest == c.ownId)
  | .txRd dest type offset count =>
    st == .idle && head.any fun r => (r.action == .read || r.action == .validate) && r.dest == dest &&
      typeByte r.type == type && r.offset == offset && r.payload == [count]
  | .txWr dest type offset payload =>
    st == .idle && head.any fun r => r.action == .write && r.dest == dest && typeByte r.type == type &&
      r.offset == offset && r.payload == payload
  | .txRaw bytes => st == .idle && head.any fun r => r.action == .raw && r.payload == bytes
  | .sendHead => st == .idle && head.isSome
  | .retryOrDrop _ => head.isSome
  | .createValidate => head.any (·.action == .write)
  | .restoreWrite => head.any (·.action == .validate)
  | .rxEmpty _ | .rxPoll _ | .rxNoise _ _ | .rxBadcrc _ _ | .txAck => true
  | .enqRead _ _ _ _ | .enqWrite _ _ _ _ _ _ | .enqRaw _ _ | .busStatus _ | .regSnapshot _ | .rescan _ | .scan _
  | .clearQueue _ | .resetCounters _ | .regHandler _ _ _ _ | .cmdIllegal _ _ => true
  | .checksum _ | .verify _ | .classify _ | .decodeHeaderS _ | .decodeHeaderX _ | .encodeRd _ | .encodeWr _
  | .encodeRaw _ | .encodeAck | .lookup _ _ | .onVersion _ | .assign _ _ _ | .scanDevices | .dispatch _ _
  | .connected _ | .txCapable _ => true

/-- The encoding of an operation: an input event, or a transmitted frame. -/
inductive Encoding where
  | event (e : Event)
  | tx (f : Frame)
deriving DecidableEq, Repr

/-- The frame of a standard telegram (format TLG-S, 30_encoding.md R62), bit 7 of byte 0 clear; none for an extended one,
whose layout the spec does not give (R66; log 18). -/
def encodeTelegram (c : Config) (t : Telegram) : Option Frame :=
  if t.type.ext then none
  else some (withChecksum c
    ([t.src.setWidth 8, t.dest.setWidth 8 ||| (if t.destRw then 0x80 else 0), typeByte t.type, t.offset] ++ t.data))

/-- The event that delivers a telegram. -/
def telegramEvent (c : Config) (t : Telegram) (now : Time) : Option Encoding :=
  (encodeTelegram c t).map fun f => .event (.rx f now)

/-- The event of a command with the given operands. -/
def cmdEvent (code : Byte) (o : CmdOperands) (now : Time) : Option Encoding := some (.event (.cmd code o now))

/-- The encoder: none for the operations that have no bit pattern (30_encoding.md R75). -/
def encode (c : Config) (i : Instr) : Option Encoding :=
  match i with
  | .rxEmpty now => some (.event (.rx [] now))
  | .rxPoll now => some (.event (.rx [pollByte c] now))
  | .rxWack now => some (.event (.rx [ackByte] now))
  | .rxWnack now => some (.event (.rx [nackByte] now))
  | .rxOther1 b now => some (.event (.rx [b] now))
  | .rxNoise f now => some (.event (.rx f now))
  | .rxBadcrc f now => some (.event (.rx f now))
  | .rxTlgIdle t now => telegramEvent c t now
  | .rxTlgWaitNotOurs t now => telegramEvent c t now
  | .rxTlgWaitRead t now => telegramEvent c t now
  | .rxTlgWaitValidate t now => telegramEvent c t now
  | .rxTlgWaitWrite t now => telegramEvent c t now
  | .rxTlgWaitOther t now => telegramEvent c t now
  | .txRd dest type offset count => some (.tx (rdFrame c dest type offset [count]))
  | .txWr dest type offset payload => some (.tx (wrFrame c dest type offset payload))
  | .txRaw bytes => some (.tx (withChecksum c bytes))
  | .txAck => some (.tx (encodeAck c))
  | .enqRead type dest fr now => cmdEvent 0x01 { CmdOperands.zero with type := type, dest := dest, forceRefresh := fr } now
  | .enqWrite type dest offset payload vt now =>
    cmdEvent 0x02
      { CmdOperands.zero with type := type, dest := dest, offset := offset, payload := payload, validateType := vt } now
  | .enqRaw bytes now => cmdEvent 0x03 { CmdOperands.zero with bytes := bytes } now
  | .busStatus now => cmdEvent 0x04 .zero now
  | .regSnapshot now => cmdEvent 0x05 .zero now
  | .rescan now => cmdEvent 0x06 .zero now
  | .scan now => cmdEvent 0x07 .zero now
  | .clearQueue now => cmdEvent 0x08 .zero now
  | .resetCounters now => cmdEvent 0x09 .zero now
  | .regHandler scope type cb now => cmdEvent 0x0A { CmdOperands.zero with scope := scope, type := type, cb := cb } now
  | .cmdIllegal code now => cmdEvent code .zero now
  | .checksum _ => none
  | .verify _ => none
  | .classify _ => none
  | .decodeHeaderS _ => none
  | .decodeHeaderX _ => none
  | .encodeRd _ => none
  | .encodeWr _ => none
  | .encodeRaw _ => none
  | .encodeAck => none
  | .lookup _ _ => none
  | .onVersion _ => none
  | .assign _ _ _ => none
  | .scanDevices => none
  | .sendHead => none
  | .retryOrDrop _ => none
  | .createValidate => none
  | .restoreWrite => none
  | .dispatch _ _ => none
  | .connected _ => none
  | .txCapable _ => none

/-- The bytes of a table word, the first at the least significant end. -/
def wordBytes (n w : Nat) : List Byte := (List.range n).map fun k => BitVec.ofNat 8 (w >>> (8 * k))

/-- The input event a table word stands for: a single byte is an own poll, the poll-ack byte (which the engine sends in
answer to an own poll) or a command code with zero operands; any other number of bytes is a received frame (log 15). -/
def tableEvent (c : Config) (nbits w : Nat) : Event :=
  let bytes := wordBytes (nbits / 8) w
  match bytes with
  | [b] => if b = pollByte c ∨ b = ownByte c then .rx [pollByte c] 0 else .cmd b .zero 0
  | _ => .rx bytes 0

/-- The operation the decoder reads from a table word, under the default configuration, right after reset (log 15). -/
def decodeTableWord (nbits w : Nat) : Option Instr :=
  if wordBytes (nbits / 8) w = [ownByte Config.default] then (decodeTx Config.default (wordBytes (nbits / 8) w)).toOption
  else (decodeEvent Config.default .idle none (tableEvent Config.default nbits w)).toOption

end Sys2Proof
end

