-- ==== Sys2Proof/Machine/State.lean ====
section
/-! DEFINITION. The state of the engine as plain data (10_state.md R13; the buffers of 20_memory.md R40), its outputs, the
reasons a step can stop, and the state after reset (R32). -/

namespace Sys2Proof.Machine

/-- The BusStatus block (10_state.md R24, R25). -/
structure BusStatus where
  rxPackets : Count
  txPackets : Count
  crcErrors : Count
  retryCount : Count
  lastRx : Option Time
  lastPoll : Option Time
deriving DecidableEq, Repr

/-- An active-device slot (10_state.md R27, R28). -/
structure Slot where
  id : DevId
  matched : Bool
  productId : ProductId
  modelId : ModelId
  readSupported : Bool
  writeSupported : Bool
  brand : Brand
  version : Byte × Byte
deriving DecidableEq, Repr

/-- An entry of the handler table (10_state.md R29). -/
structure Handler where
  scope : Scope
  type : TypeId
  cb : CbId
deriving DecidableEq, Repr

/-- The values of a `RESP` to BUS_STATUS (45_host_commands.md R164). -/
structure StatusReport where
  rxPackets : Count
  txPackets : Count
  crcErrors : Count
  retryCount : Count
  lastRx : Option Time
  lastPoll : Option Time
  connected : Bool
  txCapable : Bool
  txStatus : TxStatus
  queueLen : Nat
deriving DecidableEq, Repr

/-- What a `RESP` carries beside its code. -/
inductive RespValues where
  | none
  | status (report : StatusReport)
  | snapshot (boiler thermostat : Slot)
deriving DecidableEq, Repr

/-- The telegram fields of `DISP` and `HCALL` (43_dispatcher.md R148). -/
structure DispatchFields where
  src : DevId
  dest : DevId
  destRw : Bool
  type : TypeId
  offset : Offset
  data : List Byte
  refresh : Bool
deriving DecidableEq, Repr

/-- The outputs of a step (00_scope.md R10). -/
inductive Output where
  | tx (bytes : Frame)
  | disp (fields : DispatchFields)
  | hcall (cb : CbId) (scope : Scope) (fields : DispatchFields)
  | evt (code : Condition) (type : TypeId) (dest : DevId)
  | resp (code : RespCode) (values : RespValues)
deriving DecidableEq, Repr

/-- What an internal operation run on its own returned (log 5). -/
inductive OpResult where
  | nothing
  | byte (b : Byte)
  | bit (b : Bool)
  | op (o : RxOp)
  | record (r : Option DeviceRecord)
  /-- SCAN: whether any PushTail returned `full`. -/
  | full (b : Bool)
  /-- RETRY_OR_DROP: whether the request was kept. -/
  | kept (b : Bool)
deriving DecidableEq, Repr

/-- The state. -/
structure State where
  /-- The configuration, constant for a run (10_state.md R14; log 1). -/
  cfg : Config
  /-- `tx_status` (R16). -/
  txStatus : TxStatus
  /-- `q`, index 0 the head (R22). -/
  q : List TxRequest
  /-- `bus` (R24, R25). -/
  bus : BusStatus
  /-- The active boiler (R27). -/
  boiler : Slot
  /-- The active thermostat (R28). -/
  thermostat : Slot
  /-- The handler table, in registration order (R29). -/
  handlers : List Handler
  /-- RXBUF: the frame of the current RX event (20_memory.md R41; log 4). -/
  rxbuf : List Byte
  /-- TXBUF: the frame being assembled (20_memory.md R42; log 4). -/
  txbuf : List Byte
  /-- The Telegram view of the current event (10_state.md R17, R18; log 4). -/
  tlg : Option Telegram
  /-- The model's own: what the last internal operation returned (log 5). -/
  result : OpResult
  /-- The model's own: events delivered and not yet processed, oldest first (log 2). -/
  inbox : List Event
  /-- The model's own: outputs emitted, oldest first (log 3). -/
  outbox : List Output
deriving DecidableEq, Repr

/-- Faults of the model; the spec has none (60_exceptions.md R181). No step raises one: the decoder selects an operation
only where it applies. Log 6. -/
inductive Fault where
  /-- Raised by a receive or transmit operation, SEND_HEAD, RETRY_OR_DROP, CREATE_VALIDATE or RESTORE_WRITE run in a state
  that does not select it or where its precondition does not hold. Safe. -/
  | notSelected
  /-- Raised by a codec or registry operation run on operands outside its stated precondition. Safe. -/
  | preconditionUnmet
deriving DecidableEq, Repr

/-- Refusals. -/
inductive Refusal where
  /-- An operation with no meaning yet, by its mnemonic; raised by `exec` alone. Safe. -/
  | notModelled (mnemonic : String)
  /-- Raised by `step` on an RX event longer than `MAX_FRAME_LEN`: "a model refuses such an event" (20_memory.md R41,
  70_reset_and_hazards.md R209; log 20). Safe. -/
  | frameTooLong
deriving DecidableEq, Repr

/-- A slot at its reset value: the pre-configured id, every other field 0 (10_state.md R27, R32). -/
def Slot.reset (id : DevId) : Slot := ⟨id, false, 0, 0, false, false, 0, (0, 0)⟩

/-- BusStatus at reset (R24, R25, R32). -/
def BusStatus.reset : BusStatus := ⟨0, 0, 0, 0, none, none⟩

/-- The state after reset under a configuration (10_state.md R32, 70_reset_and_hazards.md R201). -/
def State.resetOf (c : Config) : State where
  cfg := c
  txStatus := .idle
  q := []
  bus := .reset
  boiler := .reset c.preconfBoilerId
  thermostat := .reset c.preconfThermostatId
  handlers := []
  rxbuf := []
  txbuf := []
  tlg := none
  result := .nothing
  inbox := []
  outbox := []

/-- The state after reset under the default configuration of 00_scope.md R8 (log 7). -/
def State.reset : State := State.resetOf Config.default

end Sys2Proof.Machine
end

