-- ==== Sys2Proof/Machine/Flags.lean ====
section
/-! DEFINITION. The one-bit values and counter arithmetic of the engine (10_state.md R31; 44_bus_status.md): saturating
increment, age of a timestamp, the two liveness predicates and the dispatcher's gates. -/

namespace Sys2Proof.Machine

/-- `sat_inc(c)`: `c + 1` below `2^CNT_W - 1`, else `c` (00_scope.md R11). -/
def satInc (c : Count) : Count := if c.toNat < 2 ^ 32 - 1 then c + 1 else c

/-- `age(ts, now)`: `now - ts`, or 0 if that would be negative (R152). -/
def age (ts now : Time) : Nat := now.toNat - ts.toNat

/-- A timestamp younger than a threshold; a `none` timestamp is not (R153, R154). -/
def fresh (ts : Option Time) (threshold : Nat) (now : Time) : Bool :=
  match ts with
  | none => false
  | some t => decide (age t now < threshold)

/-- CONNECTED(now) (R153). -/
def connected (b : BusStatus) (now : Time) : Bool := fresh b.lastRx busTimeout now

/-- TX_CAPABLE(now) (R154). -/
def txCapable (b : BusStatus) (now : Time) : Bool := fresh b.lastPoll pollTimeout now

/-- A slot is active for a source: its id is not `ID_NONE` and equals the source (43_dispatcher.md R142, R144). -/
def slotActive (c : Config) (sl : Slot) (src : DevId) : Bool := sl.id != c.idNone && src == sl.id

/-- `SRC_ACTIVE(s)` (R142). -/
def srcActive (src : DevId) (s : State) : Bool := slotActive s.cfg s.boiler src || slotActive s.cfg s.thermostat src

/-- The handler gate (R142, R144): the type is equal, and a ModelSpecific entry needs an active source. -/
def handlerGate (t : Telegram) (s : State) (e : Handler) : Bool :=
  e.type == t.type && (e.scope == .common || srcActive t.src s)

/-- The queue has room for one more request (20_memory.md R45). -/
def hasRoom (s : State) : Bool := decide (s.q.length < s.cfg.queueDepth)

end Sys2Proof.Machine
end

