-- ==== Sys2Proof/Machine/Codes.lean ====
section
/-! DEFINITION. The numeric encodings the spec gives its enumerations (10_state.md R15, 30_encoding.md R74,
60_exceptions.md R182). -/

namespace Sys2Proof.Machine

/-- Read=0, Write=1, Validate=2, Raw=3 (R15). -/
def actionCode (a : Action) : BitVec 2 :=
  match a with
  | .read => 0
  | .write => 1
  | .validate => 2
  | .raw => 3

/-- Idle=0, Wait=1 (R15). -/
def txStatusCode (s : TxStatus) : BitVec 1 :=
  match s with
  | .idle => 0
  | .wait => 1

/-- Common=0, ModelSpecific=1 (R15). -/
def scopeCode (s : Scope) : BitVec 1 :=
  match s with
  | .common => 0
  | .modelSpecific => 1

/-- The scope a REG_HANDLER operand names; none above 1 (45_host_commands.md R172). -/
def scopeOfCode (b : Byte) : Option Scope :=
  if b = 0 then some .common else if b = 1 then some .modelSpecific else none

/-- Boiler=0, Thermostat=1 (R15). -/
def kindCode (k : Kind) : BitVec 1 :=
  match k with
  | .boiler => 0
  | .thermostat => 1

/-- OK=0, QUEUE_FULL=1, BAD_OPERAND=2, TABLE_FULL=3 (R74). -/
def respCodeNumber (r : RespCode) : Nat :=
  match r with
  | .ok => 0
  | .queueFull => 1
  | .badOperand => 2
  | .tableFull => 3

/-- The condition codes 1 to 14 (R182). -/
def conditionCode (c : Condition) : Nat :=
  match c with
  | .frameTooShort => 1
  | .checksumMismatch => 2
  | .writeNacked => 3
  | .readMismatch => 4
  | .validateMismatch => 5
  | .readGaveUp => 6
  | .writeFailed => 7
  | .unknownType => 8
  | .busDisconnected => 9
  | .internalInconsistency => 10
  | .replyNotForUs => 11
  | .queueFull => 12
  | .badOperand => 13
  | .tableFull => 14

end Sys2Proof.Machine
end

