-- ==== Sys2Proof/Machine/Operands.lean ====
section
/-! DEFINITION. The operand forms of the host commands: the range checks of 45_host_commands.md R172 and the requests the
enqueue commands build (R161 to R163). -/

namespace Sys2Proof.Machine

/-- `dest <= 0x7F` (R172). -/
def destInRange (dest : Byte) : Bool := decide (dest.toNat ≤ 0x7F)

/-- The operand check of ENQ_READ (R161). -/
def enqReadOk (type : TypeId) (dest : Byte) : Bool := transmittable type && destInRange dest

/-- The operand check of ENQ_WRITE (R162). -/
def enqWriteOk (c : Config) (type : TypeId) (dest : Byte) (payload : List Byte) : Bool :=
  transmittable type && destInRange dest && decide (1 ≤ payload.length) && decide (payload.length ≤ c.maxPayload)

/-- The operand check of ENQ_RAW (R163). -/
def enqRawOk (c : Config) (bytes : List Byte) : Bool :=
  decide (1 ≤ bytes.length) && decide (bytes.length ≤ c.maxFrameLen - 1)

/-- `ReadRequest(type, dest, fr)` (R161). -/
def readRequest (c : Config) (type : TypeId) (dest : DevId) (fr : Bool) : TxRequest where
  action := .read
  dest := dest
  type := type
  offset := 0
  payload := [c.readReqLen]
  validateType := .zero
  compareOffset := 0
  compareValue := 0
  postReadType := .zero
  forceRefresh := fr
  retryCount := 0
  origOffset := 0
  origPayload := []

/-- The request ENQ_WRITE builds (R162); `compare_value = payload[0]`, the payload being checked not empty before. -/
def writeRequest (type : TypeId) (dest : DevId) (offset : Offset) (payload : List Byte) (validateType : TypeId) :
    TxRequest where
  action := .write
  dest := dest
  type := type
  offset := offset
  payload := payload
  validateType := validateType
  compareOffset := offset
  compareValue := payload.headD 0
  postReadType := type
  forceRefresh := false
  retryCount := 0
  origOffset := 0
  origPayload := []

/-- The request ENQ_RAW builds (R163). -/
def rawRequest (bytes : List Byte) : TxRequest where
  action := .raw
  dest := 0
  type := .zero
  offset := 0
  payload := bytes
  validateType := .zero
  compareOffset := 0
  compareValue := 0
  postReadType := .zero
  forceRefresh := false
  retryCount := 0
  origOffset := 0
  origPayload := []

/-- The one-byte comparison of a Validate reply: `len(data) >= 1 and data[0] = compare_value` (42_tx_state_machine.md
R121). -/
def validateMatches (t : Telegram) (r : TxRequest) : Bool := t.data.head? == some r.compareValue

/-- The match test of a Read reply: source and type, not offset or data (42_tx_state_machine.md R119). -/
def readMatches (t : Telegram) (r : TxRequest) : Bool := t.src == r.dest && t.type == r.type

/-- The fields a dispatch of a telegram carries (43_dispatcher.md R148). -/
def dispatchFields (t : Telegram) (refresh : Bool) : DispatchFields :=
  ⟨t.src, t.dest, t.destRw, t.type, t.offset, t.data, refresh⟩

end Sys2Proof.Machine
end

