-- ==== Sys2Proof/Machine/Ops.lean ====
section
/-! DEFINITION. The named operations every meaning is built from: writing a field, the queue primitives (20_memory.md R44 to
R46), the storage spaces (R40, R11), emitting outputs, handing a frame to the transport (R42), raising a condition
(60_exceptions.md R181, R182), and taking the next input event. -/

namespace Sys2Proof.Machine

/-- `tx_status <- st`. -/
def setStatus (st : TxStatus) (s : State) : State := { s with txStatus := st }
/-- `q <- q'`. -/
def setQ (q : List TxRequest) (s : State) : State := { s with q := q }
/-- Write the BusStatus block. -/
def setBus (b : BusStatus) (s : State) : State := { s with bus := b }
/-- Write the slot of a kind. -/
def setSlot (k : Kind) (sl : Slot) (s : State) : State :=
  match k with
  | .boiler => { s with boiler := sl }
  | .thermostat => { s with thermostat := sl }
/-- Write the handler table. -/
def setHandlers (h : List Handler) (s : State) : State := { s with handlers := h }
/-- Write RXBUF whole. -/
def setRxbuf (f : List Byte) (s : State) : State := { s with rxbuf := f }
/-- Write TXBUF whole. -/
def setTxbuf (f : List Byte) (s : State) : State := { s with txbuf := f }
/-- Write the Telegram view. -/
def setTlg (t : Option Telegram) (s : State) : State := { s with tlg := t }
/-- Record what an internal operation returned. -/
def setResult (r : OpResult) (s : State) : State := { s with result := r }
/-- Write the pending events. -/
def setInbox (es : List Event) (s : State) : State := { s with inbox := es }
/-- Append outputs in order. -/
def emitAll (os : List Output) (s : State) : State := { s with outbox := s.outbox ++ os }

/-- `emit X` (00_scope.md R11). -/
def emit (o : Output) (s : State) : State := emitAll [o] s

/-- The slot of a kind. -/
def slotOf (k : Kind) (s : State) : Slot :=
  match k with
  | .boiler => s.boiler
  | .thermostat => s.thermostat

/-- The byte-indexed storage spaces (20_memory.md R40). -/
inductive Space where
  | rxbuf
  | txbuf
  | crcrom
deriving DecidableEq, Repr

/-- The valid bytes of a space. -/
def spaceBytes (sp : Space) (s : State) : List Byte :=
  match sp with
  | .rxbuf => s.rxbuf
  | .txbuf => s.txbuf
  | .crcrom => s.cfg.crcTable

/-- `MemRead(space + i, n)` (R11): none beyond the valid length, which no rule reads (R50). -/
def memRead (sp : Space) (i n : Nat) (s : State) : Option (List Byte) :=
  if i + n ≤ (spaceBytes sp s).length then some (((spaceBytes sp s).drop i).take n) else none

/-- `MemWrite(space + i, n, v)` with `n = len(v)` (R11): into the valid bytes or directly behind them, within
`MAX_FRAME_LEN`; CRCROM is never written (R40). -/
def memWrite (sp : Space) (i : Nat) (v : List Byte) (s : State) : Option State :=
  let b := spaceBytes sp s
  if i ≤ b.length ∧ i + v.length ≤ s.cfg.maxFrameLen then
    match sp with
    | .rxbuf => some (setRxbuf (b.take i ++ v ++ b.drop (i + v.length)) s)
    | .txbuf => some (setTxbuf (b.take i ++ v ++ b.drop (i + v.length)) s)
    | .crcrom => none
  else none

/-- `PopHead()` (R44): nothing on an empty queue. -/
def popHead (s : State) : State := setQ s.q.tail s

/-- `PushTail(r)` (R45): whether it answered `full`, and the state. -/
def pushTail (r : TxRequest) (s : State) : Bool × State :=
  if hasRoom s then (false, setQ (s.q ++ [r]) s) else (true, s)

/-- Several PushTail in order: whether any answered `full`, and the state. -/
def pushAll (rs : List TxRequest) (s : State) : Bool × State :=
  match rs with
  | [] => (false, s)
  | r :: rest =>
    let p := pushTail r s
    let p' := pushAll rest p.2
    (p.1 || p'.1, p'.2)

/-- In-place update of `q[0]` (R46). -/
def updateHead (g : TxRequest → TxRequest) (s : State) : State :=
  match s.q with
  | [] => s
  | r :: rest => setQ (g r :: rest) s

/-- The hand-over of TXBUF to the transport (R42): the `TX` output; nothing of TXBUF is kept. -/
def handOver (s : State) : State := setTxbuf [] (emit (.tx s.txbuf) s)

/-- Assemble a frame in TXBUF and hand it over. -/
def transmit (f : Frame) (s : State) : State := handOver (setTxbuf f s)

/-- `emit TX(ENCODE_ACK())`, the poll-acknowledgement (42_tx_state_machine.md R109). -/
def pollAck (s : State) : State := transmit (encodeAck s.cfg) s

/-- `emit RESP(code, values)`. -/
def respond (code : RespCode) (values : RespValues) (s : State) : State := emit (.resp code values) s

/-- `emit EVT(code, q[0].type, q[0].dest)`; nothing on an empty queue (42_tx_state_machine.md R112). -/
def evtHead (c : Condition) (s : State) : State :=
  match s.q with
  | [] => s
  | r :: _ => emit (.evt c r.type r.dest) s

/-- The two increments of a mismatch (42_tx_state_machine.md R120; 8-bit addition, log 13). -/
def countMismatch (s : State) : State :=
  setBus { s.bus with retryCount := satInc s.bus.retryCount }
    (updateHead (fun r => { r with retryCount := r.retryCount + 1 }) s)

/-- `raise C(info)` (60_exceptions.md R181): the state effect and the output that R182's table lists for `C`. Nothing is
saved, no control is transferred, there is no return (log 19). -/
def raise (c : Condition) (s : State) : State :=
  match c with
  | .frameTooShort => s
  | .checksumMismatch => setBus { s.bus with crcErrors := satInc s.bus.crcErrors } s
  | .writeNacked => setStatus .idle (popHead (evtHead .writeNacked s))
  | .readMismatch => countMismatch s
  | .validateMismatch => countMismatch s
  | .readGaveUp => popHead (evtHead .readGaveUp s)
  | .writeFailed => popHead (evtHead .writeFailed s)
  | .unknownType => s
  | .busDisconnected => s
  | .internalInconsistency => evtHead .internalInconsistency s
  | .replyNotForUs => popHead s
  | .queueFull => respond .queueFull .none s
  | .badOperand => respond .badOperand .none s
  | .tableFull => respond .tableFull .none s

/-- Answer OK, or raise QueueFull, as PushTail answered (45_host_commands.md R161). -/
def answerPush (p : Bool × State) : State := if p.1 then raise .queueFull p.2 else respond .ok .none p.2

/-- An operation that runs only where it is selected (log 6). -/
def whenSelected (i : Instr) (s t : State) : Host.Outcome State Fault Refusal :=
  if selectedIn s.cfg s.txStatus s.q.head? i then .next t else .fault .notSelected

/-- An internal operation that runs only on operands that meet its precondition (log 6). -/
def whenWellFormed (i : Instr) (s t : State) : Host.Outcome State Fault Refusal :=
  if wellFormed s.cfg i then .next t else .fault .preconditionUnmet

/-- What the next input event selects in this state. -/
def decodeIn (e : Event) (s : State) : Except DecodeError Instr := decodeEvent s.cfg s.txStatus s.q.head? e

/-- Take the first pending event: the transport has put an RX event's frame into RXBUF before the step (20_memory.md
R40). -/
def takeEvent (e : Event) (rest : List Event) (s : State) : State :=
  match e with
  | .rx f _ => setRxbuf f (setInbox rest s)
  | .cmd _ _ _ => setInbox rest s

/-- The end of an event: RXBUF is not kept (20_memory.md R41), the Telegram is discarded (10_state.md R18). Log 4. -/
def endEvent (s : State) : State := setTlg none (setRxbuf [] s)

/-- Place a table word where the next step takes its event (log 15). The engine transmits its poll-ack in answer to an own
poll, so for the poll-ack's word the event is an own poll; a queued request would be sent in its place, so an Idle queue is
emptied. -/
def placeWord (nbits w : Nat) (s : State) : State :=
  let s' := setInbox (tableEvent s.cfg nbits w :: s.inbox) s
  if wordBytes (nbits / 8) w = [ownByte s.cfg] ∧ s.txStatus = .idle then setQ [] s' else s'

end Sys2Proof.Machine
end

