-- ==== Sys2Proof/Machine/BusMonitor.lean ====
section
/-! DEFINITION. The bus status monitor's predicates run on their own (44_bus_status.md R153, R154); the predicates themselves
are in Flags.lean. -/

namespace Sys2Proof.Machine

/-- CONNECTED(now) (R153). -/
def execConnected (now : Time) (s : State) : Host.Outcome State Fault Refusal :=
  .next (setResult (.bit (connected s.bus now)) s)

/-- TX_CAPABLE(now) (R154). -/
def execTxCapable (now : Time) (s : State) : Host.Outcome State Fault Refusal :=
  .next (setResult (.bit (txCapable s.bus now)) s)

end Sys2Proof.Machine
end

