-- ==== Sys2Proof/Machine/Codec.lean ====
section
/-! DEFINITION. The frame codec operations run on their own (40_frame_codec.md): a byte, bit or operation name goes to
`result`, a decoded Telegram to the Telegram view, an assembled frame to TXBUF. -/

namespace Sys2Proof.Machine

/-- CHECKSUM (R81). -/
def execChecksum (bs : List Byte) (s : State) : Host.Outcome State Fault Refusal :=
  .next (setResult (.byte (checksum s.cfg bs)) s)

/-- VERIFY (R83); `len(f) >= 2`. -/
def execVerify (f : Frame) (s : State) : Host.Outcome State Fault Refusal :=
  whenWellFormed (.verify f) s (setResult (.bit (verify s.cfg f)) s)

/-- CLASSIFY (R85), with the current `tx_status`. -/
def execClassify (f : Frame) (s : State) : Host.Outcome State Fault Refusal :=
  .next (setResult (.op (classify s.cfg s.txStatus f)) s)

/-- DECODE_HEADER, standard form (R86). -/
def execDecodeHeaderS (f : Frame) (s : State) : Host.Outcome State Fault Refusal :=
  whenWellFormed (.decodeHeaderS f) s (setTlg (decodeHeaderS f) s)

/-- DECODE_HEADER, extended form (R87): where the header does not fit, FrameTooShort and no Telegram. -/
def execDecodeHeaderX (f : Frame) (s : State) : Host.Outcome State Fault Refusal :=
  whenWellFormed (.decodeHeaderX f) s
    (match decodeHeaderX s.cfg f with
    | none => setTlg none (raise .frameTooShort s)
    | some t => setTlg (some t) s)

/-- ENCODE_RD (R88). -/
def execEncodeRd (r : TxRequest) (s : State) : Host.Outcome State Fault Refusal :=
  whenWellFormed (.encodeRd r) s (setTxbuf (encodeRd s.cfg r) s)

/-- ENCODE_WR (R89). -/
def execEncodeWr (r : TxRequest) (s : State) : Host.Outcome State Fault Refusal :=
  whenWellFormed (.encodeWr r) s (setTxbuf (encodeWr s.cfg r) s)

/-- ENCODE_RAW (R90): any Raw request, whatever its length. -/
def execEncodeRaw (r : TxRequest) (s : State) : Host.Outcome State Fault Refusal :=
  whenWellFormed (.encodeRaw r) s (setTxbuf (encodeRaw s.cfg r) s)

/-- ENCODE_ACK (R91). -/
def execEncodeAck (s : State) : Host.Outcome State Fault Refusal :=
  .next (setTxbuf (encodeAck s.cfg) s)

end Sys2Proof.Machine
end

