-- ==== Sys2Proof/Machine/Registry.lean ====
section
/-! DEFINITION. The device registry (41_device_registry.md): LOOKUP, ON_VERSION, ASSIGN, SCAN. -/

namespace Sys2Proof.Machine

/-- The table of a kind (R95). -/
def tableOf (c : Config) (k : Kind) : List DeviceRecord :=
  match k with
  | .boiler => c.boilerTable
  | .thermostat => c.thermostatTable

/-- LOOKUP(table, id) (R96): linear scan, first match wins. -/
def lookup (table : List DeviceRecord) (id : ProductId) : Option DeviceRecord :=
  match table with
  | [] => none
  | r :: rest => if r.productId = id then some r else lookup rest id

/-- VERSION_PARSE(offset, data) (R103): the default, or an uninterpreted function (log 9). -/
def versionParse (c : Config) (offset : Offset) (data : List Byte) : Option (ProductId × (Byte × Byte)) :=
  match c.versionParse with
  | .standard =>
    match data with
    | pid :: major :: minor :: _ => if offset = 0 then some (pid, (major, minor)) else none
    | _ => none
  | .uninterpreted k => Config.openVersionParse k offset data

/-- The first line of a burst table for a kind and record. -/
def burstReads (rows : List BurstRow) (k : Kind) (rec : DeviceRecord) : List BurstRead :=
  match rows with
  | [] => []
  | row :: rest => if row.kind = k ∧ row.record = rec then row.reads else burstReads rest k rec

/-- INIT_BURST(kind, rec) as Read requests, in list order (R98, R104; log 10). -/
def burstRequests (c : Config) (k : Kind) (rec : DeviceRecord) : List TxRequest :=
  (burstReads c.initBurst k rec).map fun b => readRequest c b.type b.dest b.forceRefresh

/-- The slot ASSIGN writes (R98). -/
def assignedSlot (rec : DeviceRecord) (ver : Byte × Byte) : Slot where
  id := rec.typeId
  matched := true
  productId := rec.productId
  modelId := rec.modelId
  readSupported := rec.readSupported
  writeSupported := rec.writeSupported
  brand := rec.brand
  version := ver

/-- ASSIGN acts on the slot: not yet matched, and free or pre-configured to the record's address (R98, C3). -/
def assignable (c : Config) (sl : Slot) (rec : DeviceRecord) : Bool :=
  !sl.matched && (sl.id == c.idNone || sl.id == rec.typeId)

/-- ASSIGN(slot, kind, rec, ver) (R98): a `full` result drops that burst element. -/
def assign (k : Kind) (rec : DeviceRecord) (ver : Byte × Byte) (s : State) : State :=
  if assignable s.cfg (slotOf k s) rec then
    (pushAll (burstRequests s.cfg k rec) (setSlot k (assignedSlot rec ver) s)).2
  else s

/-- Which slot and record a Version telegram resolves to: the boiler table first, then the thermostat table (R97). -/
def resolveVersion (c : Config) (t : Telegram) : Option (Kind × DeviceRecord × (Byte × Byte)) :=
  match versionParse c t.offset t.data with
  | none => none
  | some (pid, ver) =>
    match lookup c.boilerTable pid with
    | some rec => some (.boiler, rec, ver)
    | none =>
      match lookup c.thermostatTable pid with
      | some rec => some (.thermostat, rec, ver)
      | none => none

/-- ON_VERSION(t) (R97). -/
def onVersion (t : Telegram) (s : State) : State :=
  match resolveVersion s.cfg t with
  | some (k, rec, ver) => assign k rec ver s
  | none => s

/-- One record of the scan's union: its device id, unless it is `ID_NONE` or already there (R100). -/
def scanAdd (c : Config) (ids : List DevId) (rec : DeviceRecord) : List DevId :=
  if rec.typeId ≠ c.idNone ∧ rec.typeId ∉ ids then ids ++ [rec.typeId] else ids

/-- The de-duplicated union of device ids, first occurrence, boiler table first (R100). -/
def scanIds (c : Config) : List DevId := (c.boilerTable ++ c.thermostatTable).foldl (scanAdd c) []

/-- The Version reads of a scan (R100). -/
def scanRequests (c : Config) : List TxRequest := (scanIds c).map fun d => readRequest c typeVersion d false

/-- SCAN() (R100): whether any PushTail answered `full`, and the state. -/
def scanDevices (s : State) : Bool × State := pushAll (scanRequests s.cfg) s

/-- LOOKUP run on its own. -/
def execLookup (table : Kind) (id : ProductId) (s : State) : Host.Outcome State Fault Refusal :=
  .next (setResult (.record (lookup (tableOf s.cfg table) id)) s)

/-- ON_VERSION run on its own; `t.type` is the Version type. -/
def execOnVersion (t : Telegram) (s : State) : Host.Outcome State Fault Refusal :=
  whenWellFormed (.onVersion t) s (onVersion t s)

/-- ASSIGN run on its own. -/
def execAssign (kind : Kind) (record : DeviceRecord) (version : Byte × Byte) (s : State) :
    Host.Outcome State Fault Refusal :=
  .next (assign kind record version s)

/-- SCAN() run on its own (`SCAN_DEVICES` of the table). -/
def execScanDevices (s : State) : Host.Outcome State Fault Refusal :=
  .next (setResult (.full (scanDevices s).1) (scanDevices s).2)

end Sys2Proof.Machine
end

