-- ==== Sys2Proof/Machine/HostCmd.lean ====
section
/-! DEFINITION. The host commands (45_host_commands.md). Each emits exactly one RESP as its last output and no TX (R160). -/

namespace Sys2Proof.Machine

/-- ENQ_READ (R161). -/
def execEnqRead (type : TypeId) (dest : Byte) (forceRefresh : Bool) (_now : Time) (s : State) :
    Host.Outcome State Fault Refusal :=
  .next (if enqReadOk type dest then answerPush (pushTail (readRequest s.cfg type (devOf dest) forceRefresh) s)
    else raise .badOperand s)

/-- ENQ_WRITE (R162). -/
def execEnqWrite (type : TypeId) (dest : Byte) (offset : Offset) (payload : List Byte) (validateType : TypeId)
    (_now : Time) (s : State) : Host.Outcome State Fault Refusal :=
  .next (if enqWriteOk s.cfg type dest payload then
      answerPush (pushTail (writeRequest type (devOf dest) offset payload validateType) s)
    else raise .badOperand s)

/-- ENQ_RAW (R163). -/
def execEnqRaw (bytes : List Byte) (_now : Time) (s : State) : Host.Outcome State Fault Refusal :=
  .next (if enqRawOk s.cfg bytes then answerPush (pushTail (rawRequest bytes) s) else raise .badOperand s)

/-- The values BUS_STATUS answers (R164). -/
def statusReport (now : Time) (s : State) : StatusReport where
  rxPackets := s.bus.rxPackets
  txPackets := s.bus.txPackets
  crcErrors := s.bus.crcErrors
  retryCount := s.bus.retryCount
  lastRx := s.bus.lastRx
  lastPoll := s.bus.lastPoll
  connected := connected s.bus now
  txCapable := txCapable s.bus now
  txStatus := s.txStatus
  queueLen := s.q.length

/-- BUS_STATUS (R164). -/
def execBusStatus (now : Time) (s : State) : Host.Outcome State Fault Refusal :=
  .next (respond .ok (.status (statusReport now s)) s)

/-- REG_SNAPSHOT (R165). -/
def execRegSnapshot (_now : Time) (s : State) : Host.Outcome State Fault Refusal :=
  .next (respond .ok (.snapshot s.boiler s.thermostat) s)

/-- Both slots at their reset values (R169, 10_state.md R32). -/
def resetSlots (s : State) : State :=
  setSlot .thermostat (.reset s.cfg.preconfThermostatId) (setSlot .boiler (.reset s.cfg.preconfBoilerId) s)

/-- `q <- []; tx_status <- Idle` (R168). -/
def clearQueue (s : State) : State := setStatus .idle (setQ [] s)

/-- RESCAN (R169). -/
def execRescan (_now : Time) (s : State) : Host.Outcome State Fault Refusal :=
  .next (answerPush (scanDevices (clearQueue (resetSlots s))))

/-- SCAN, the command (R166). -/
def execScan (_now : Time) (s : State) : Host.Outcome State Fault Refusal := .next (answerPush (scanDevices s))

/-- CLEAR_QUEUE (R168). -/
def execClearQueue (_now : Time) (s : State) : Host.Outcome State Fault Refusal :=
  .next (respond .ok .none (clearQueue s))

/-- RESET_COUNTERS (R170). -/
def execResetCounters (_now : Time) (s : State) : Host.Outcome State Fault Refusal :=
  .next (respond .ok .none
    (setBus { s.bus with rxPackets := 0, txPackets := 0, crcErrors := 0, retryCount := 0 } s))

/-- Replace the callback of the entry with this key; none if there is no such entry (R171; the first of several, log 14). -/
def replaceHandler (sc : Scope) (type : TypeId) (cb : CbId) (hs : List Handler) : Option (List Handler) :=
  match hs with
  | [] => none
  | h :: rest =>
    if h.scope = sc ∧ h.type = type then some ({ h with cb := cb } :: rest)
    else (replaceHandler sc type cb rest).map (h :: ·)

/-- REG_HANDLER with a scope in range (R171). -/
def registerHandler (sc : Scope) (type : TypeId) (cb : CbId) (s : State) : State :=
  match replaceHandler sc type cb s.handlers with
  | some hs => respond .ok .none (setHandlers hs s)
  | none =>
    if s.handlers.length < s.cfg.handlerSlots then respond .ok .none (setHandlers (s.handlers ++ [⟨sc, type, cb⟩]) s)
    else raise .tableFull s

/-- REG_HANDLER (R171; the scope check R172). -/
def execRegHandler (scope : Byte) (type : TypeId) (cb : CbId) (_now : Time) (s : State) :
    Host.Outcome State Fault Refusal :=
  .next (match scopeOfCode scope with
    | some sc => registerHandler sc type cb s
    | none => raise .badOperand s)

/-- An unknown command code (R172, 30_encoding.md R74); the code is not looked at (log 27). -/
def execCmdIllegal (_code : Byte) (_now : Time) (s : State) : Host.Outcome State Fault Refusal :=
  .next (raise .badOperand s)

end Sys2Proof.Machine
end

