-- ==== Sys2Proof/Machine/Dispatcher.lean ====
section
/-! DEFINITION. The telegram dispatcher (43_dispatcher.md): DISPATCH with the Version routing, the offset gate and the handler
gate. It ends at the handler call. -/

namespace Sys2Proof.Machine

/-- The Version routing (R143). -/
def routeVersion (t : Telegram) (s : State) : State := if t.type = typeVersion then onVersion t s else s

/-- The `HCALL` outputs of a telegram, in registration order (R142, R144); none for a partial telegram (R145). With no entry
that passes, UnknownType: no effect (R147). -/
def handlerCalls (t : Telegram) (refresh : Bool) (s : State) : List Output :=
  if t.offset = 0 then
    (s.handlers.filter (handlerGate t s)).map fun e => .hcall e.cb e.scope (dispatchFields t refresh)
  else []

/-- DISPATCH(t, refresh) (R142). -/
def dispatch (t : Telegram) (refresh : Bool) (s : State) : State :=
  let s' := routeVersion t (emit (.disp (dispatchFields t refresh)) s)
  emitAll (handlerCalls t refresh s') s'

/-- DISPATCH run on its own. -/
def execDispatch (t : Telegram) (refresh : Bool) (s : State) : Host.Outcome State Fault Refusal :=
  .next (dispatch t refresh s)

end Sys2Proof.Machine
end

