-- ==== Sys2Proof/Machine/TxQueue.lean ====
section
/-! DEFINITION. The transmit queue state machine (42_tx_state_machine.md): the receive operations, the transmit formats as the
arms of SEND_HEAD, and the conversions of the head. -/

namespace Sys2Proof.Machine

/-- Transmit a frame and wait for its answer (R110, arms Read, Validate, Write). -/
def transmitAndWait (f : Frame) (s : State) : State := setStatus .wait (transmit f s)

/-- Transmit a Raw frame and drop its request; the status stays (R110). -/
def transmitRaw (f : Frame) (s : State) : State := popHead (transmit f s)

/-- SEND_HEAD (R110). -/
def sendHead (s : State) : State :=
  match s.q with
  | [] => s
  | r :: _ =>
    match r.action with
    | .read => transmitAndWait (encodeRd s.cfg r) s
    | .validate => transmitAndWait (encodeRd s.cfg r) s
    | .write => transmitAndWait (encodeWr s.cfg r) s
    | .raw => transmitRaw (encodeRaw s.cfg r) s

/-- The conversion of a Write into its Validate (R125). -/
def toValidate (r : TxRequest) : TxRequest :=
  { r with origOffset := r.offset, origPayload := r.payload, offset := r.compareOffset, payload := [0x01],
           action := .validate }

/-- The conversion of a Validate back into its Write (R126). -/
def toWrite (r : TxRequest) : TxRequest :=
  { r with offset := r.origOffset, payload := r.origPayload, action := .write }

/-- CREATE_VALIDATE (R125). -/
def createValidate (s : State) : State := updateHead toValidate s

/-- RESTORE_WRITE (R126). -/
def restoreWrite (s : State) : State := updateHead toWrite s

/-- The head's retry count; 0 with no head. -/
def headRetry (s : State) : Nat :=
  match s.q with
  | [] => 0
  | r :: _ => r.retryCount.toNat

/-- The mismatch condition of a retry path (R119, R121). -/
def mismatchOf (g : GiveUp) : Condition :=
  match g with
  | .readGaveUp => .readMismatch
  | .writeFailed => .validateMismatch

/-- The end-of-budget condition of a retry path (R120). -/
def giveUpOf (g : GiveUp) : Condition :=
  match g with
  | .readGaveUp => .readGaveUp
  | .writeFailed => .writeFailed

/-- RETRY_OR_DROP(code) (R120): whether the request was kept, and the state. -/
def retryOrDrop (g : GiveUp) (s : State) : Bool × State :=
  let s' := raise (mismatchOf g) s
  if maxRetries < headRetry s' then (false, raise (giveUpOf g) s') else (true, s')

/-- The prelude of a good telegram (R116): `last_rx`, and the Telegram view. -/
def telegramPrelude (t : Telegram) (now : Time) (s : State) : State :=
  setTlg (some t) (setBus { s.bus with lastRx := some now } s)

/-- The prelude and the first line of RX_TLG_WAIT (R118). -/
def waitPrelude (t : Telegram) (now : Time) (s : State) : State := setStatus .idle (telegramPrelude t now s)

/-- Count a Read success (R119). -/
def countRx (s : State) : State := setBus { s.bus with rxPackets := satInc s.bus.rxPackets } s

/-- Case READ (R119), before the closing poll-ack. -/
def readReply (t : Telegram) (s : State) : State :=
  match s.q with
  | [] => s
  | r :: _ =>
    if readMatches t r then dispatch t r.forceRefresh (countRx (popHead s))
    else dispatch t false (retryOrDrop .readGaveUp s).2

/-- Case VALIDATE (R121), before the closing poll-ack. -/
def validateReply (t : Telegram) (s : State) : State :=
  match s.q with
  | [] => s
  | r :: _ =>
    if validateMatches t r then (pushTail (readRequest s.cfg r.postReadType r.dest true) (popHead s)).2
    else
      let p := retryOrDrop .writeFailed s
      if p.1 then restoreWrite p.2 else p.2

/-- The totality cases (R123), from after the prelude to the end of the event. -/
def otherReply (t : Telegram) (s : State) : State :=
  match s.q with
  | [] => if t.dest = s.cfg.ownId then pollAck (dispatch t false s) else dispatch t false s
  | _ :: _ => pollAck (raise .internalInconsistency s)

/-- RX_EMPTY (R113). -/
def execRxEmpty (_now : Time) (s : State) : Host.Outcome State Fault Refusal := .next s

/-- RX_POLL (R109). -/
def execRxPoll (now : Time) (s : State) : Host.Outcome State Fault Refusal :=
  let s' := setBus { s.bus with lastPoll := some now } s
  .next (if s.q ≠ [] ∧ s.txStatus = .idle then sendHead s' else pollAck s')

/-- RX_WACK (R111). -/
def execRxWack (now : Time) (s : State) : Host.Outcome State Fault Refusal :=
  let s' := pollAck (setBus { s.bus with txPackets := satInc s.bus.txPackets } s)
  whenSelected (.rxWack now) s
    (if s.q.head?.any (·.action == .write) then setStatus .idle (createValidate s') else s')

/-- RX_WNACK (R112). -/
def execRxWnack (now : Time) (s : State) : Host.Outcome State Fault Refusal :=
  whenSelected (.rxWnack now) s (raise .writeNacked (pollAck s))

/-- RX_OTHER1 (R113); on any byte (log 27). -/
def execRxOther1 (_b : Byte) (_now : Time) (s : State) : Host.Outcome State Fault Refusal := .next s

/-- RX_NOISE (R114): a short frame does nothing; an extended frame whose header does not fit has passed VERIFY, so `last_rx`
is recorded first (R116). DESIGN CHOICE (log 27): so it is on every frame of 5 bytes or more, also one that R58 does not
select. -/
def execRxNoise (f : Frame) (now : Time) (s : State) : Host.Outcome State Fault Refusal :=
  .next (raise .frameTooShort
    (if minTelegramLen ≤ f.length then setBus { s.bus with lastRx := some now } s else s))

/-- RX_BADCRC (R115). DESIGN CHOICE (log 27): it counts on every frame, also one that R58 does not select. -/
def execRxBadcrc (_f : Frame) (_now : Time) (s : State) : Host.Outcome State Fault Refusal :=
  .next (raise .checksumMismatch s)

/-- RX_TLG_IDLE (R117), after its prelude (R116). Like the cases of RX_TLG_WAIT it takes any Telegram (log 27). -/
def execRxTlgIdle (t : Telegram) (now : Time) (s : State) : Host.Outcome State Fault Refusal :=
  whenSelected (.rxTlgIdle t now) s (dispatch t false (telegramPrelude t now s))

/-- RX_TLG_WAIT, case NOTOURS (R118): no poll-ack. -/
def execRxTlgWaitNotOurs (t : Telegram) (now : Time) (s : State) : Host.Outcome State Fault Refusal :=
  whenSelected (.rxTlgWaitNotOurs t now) s (dispatch t false (raise .replyNotForUs (waitPrelude t now s)))

/-- RX_TLG_WAIT, case READ (R119). -/
def execRxTlgWaitRead (t : Telegram) (now : Time) (s : State) : Host.Outcome State Fault Refusal :=
  whenSelected (.rxTlgWaitRead t now) s (pollAck (readReply t (waitPrelude t now s)))

/-- RX_TLG_WAIT, case VALIDATE (R121). -/
def execRxTlgWaitValidate (t : Telegram) (now : Time) (s : State) : Host.Outcome State Fault Refusal :=
  whenSelected (.rxTlgWaitValidate t now) s (pollAck (validateReply t (waitPrelude t now s)))

/-- RX_TLG_WAIT, case WRITE (R122). -/
def execRxTlgWaitWrite (t : Telegram) (now : Time) (s : State) : Host.Outcome State Fault Refusal :=
  whenSelected (.rxTlgWaitWrite t now) s (pollAck (raise .internalInconsistency (waitPrelude t now s)))

/-- RX_TLG_WAIT, totality cases (R123). -/
def execRxTlgWaitOther (t : Telegram) (now : Time) (s : State) : Host.Outcome State Fault Refusal :=
  whenSelected (.rxTlgWaitOther t now) s (otherReply t (waitPrelude t now s))

/-- TX_RD: the transmission of a Read or Validate head (30_encoding.md R69, R73; log 17). -/
def execTxRd (dest : DevId) (type : Byte) (offset : Offset) (count : Byte) (s : State) :
    Host.Outcome State Fault Refusal :=
  whenSelected (.txRd dest type offset count) s (transmitAndWait (rdFrame s.cfg dest type offset [count]) s)

/-- TX_WR: the transmission of a Write head (30_encoding.md R70, R73; log 17). -/
def execTxWr (dest : DevId) (type : Byte) (offset : Offset) (payload : List Byte) (s : State) :
    Host.Outcome State Fault Refusal :=
  whenSelected (.txWr dest type offset payload) s (transmitAndWait (wrFrame s.cfg dest type offset payload) s)

/-- TX_RAW: the transmission of a Raw head (30_encoding.md R71, R73; log 17). -/
def execTxRaw (bytes : List Byte) (s : State) : Host.Outcome State Fault Refusal :=
  whenSelected (.txRaw bytes) s (transmitRaw (withChecksum s.cfg bytes) s)

/-- TX_ACK: the poll-acknowledgement (30_encoding.md R72). -/
def execTxAck (s : State) : Host.Outcome State Fault Refusal := .next (pollAck s)

/-- SEND_HEAD run on its own (R110). -/
def execSendHead (s : State) : Host.Outcome State Fault Refusal := whenSelected .sendHead s (sendHead s)

/-- RETRY_OR_DROP run on its own (R120). -/
def execRetryOrDrop (code : GiveUp) (s : State) : Host.Outcome State Fault Refusal :=
  whenSelected (.retryOrDrop code) s (setResult (.kept (retryOrDrop code s).1) (retryOrDrop code s).2)

/-- CREATE_VALIDATE run on its own (R125). -/
def execCreateValidate (s : State) : Host.Outcome State Fault Refusal := whenSelected .createValidate s (createValidate s)

/-- RESTORE_WRITE run on its own (R126). -/
def execRestoreWrite (s : State) : Host.Outcome State Fault Refusal := whenSelected .restoreWrite s (restoreWrite s)

end Sys2Proof.Machine
end

