-- ==== Sys2Proof/Machine/Dispatch.lean ====
section
/-! DEFINITION. The dispatch of an operation to its meaning: one arm per constructor of `Instr`. -/

namespace Sys2Proof.Machine

def exec (i : Instr) (s : State) : Host.Outcome State Fault Refusal :=
  match i with
  | .rxEmpty now => Sys2Proof.Machine.execRxEmpty now s
  | .rxPoll now => Sys2Proof.Machine.execRxPoll now s
  | .rxWack now => Sys2Proof.Machine.execRxWack now s
  | .rxWnack now => Sys2Proof.Machine.execRxWnack now s
  | .rxOther1 b now => Sys2Proof.Machine.execRxOther1 b now s
  | .rxNoise f now => Sys2Proof.Machine.execRxNoise f now s
  | .rxBadcrc f now => Sys2Proof.Machine.execRxBadcrc f now s
  | .rxTlgIdle t now => Sys2Proof.Machine.execRxTlgIdle t now s
  | .rxTlgWaitNotOurs t now => Sys2Proof.Machine.execRxTlgWaitNotOurs t now s
  | .rxTlgWaitRead t now => Sys2Proof.Machine.execRxTlgWaitRead t now s
  | .rxTlgWaitValidate t now => Sys2Proof.Machine.execRxTlgWaitValidate t now s
  | .rxTlgWaitWrite t now => Sys2Proof.Machine.execRxTlgWaitWrite t now s
  | .rxTlgWaitOther t now => Sys2Proof.Machine.execRxTlgWaitOther t now s
  | .txRd dest type offset count => Sys2Proof.Machine.execTxRd dest type offset count s
  | .txWr dest type offset payload => Sys2Proof.Machine.execTxWr dest type offset payload s
  | .txRaw bytes => Sys2Proof.Machine.execTxRaw bytes s
  | .txAck => Sys2Proof.Machine.execTxAck s
  | .enqRead type dest forceRefresh now => Sys2Proof.Machine.execEnqRead type dest forceRefresh now s
  | .enqWrite type dest offset payload validateType now => Sys2Proof.Machine.execEnqWrite type dest offset payload validateType now s
  | .enqRaw bytes now => Sys2Proof.Machine.execEnqRaw bytes now s
  | .busStatus now => Sys2Proof.Machine.execBusStatus now s
  | .regSnapshot now => Sys2Proof.Machine.execRegSnapshot now s
  | .rescan now => Sys2Proof.Machine.execRescan now s
  | .scan now => Sys2Proof.Machine.execScan now s
  | .clearQueue now => Sys2Proof.Machine.execClearQueue now s
  | .resetCounters now => Sys2Proof.Machine.execResetCounters now s
  | .regHandler scope type cb now => Sys2Proof.Machine.execRegHandler scope type cb now s
  | .cmdIllegal code now => Sys2Proof.Machine.execCmdIllegal code now s
  | .checksum bs => Sys2Proof.Machine.execChecksum bs s
  | .verify f => Sys2Proof.Machine.execVerify f s
  | .classify f => Sys2Proof.Machine.execClassify f s
  | .decodeHeaderS f => Sys2Proof.Machine.execDecodeHeaderS f s
  | .decodeHeaderX f => Sys2Proof.Machine.execDecodeHeaderX f s
  | .encodeRd r => Sys2Proof.Machine.execEncodeRd r s
  | .encodeWr r => Sys2Proof.Machine.execEncodeWr r s
  | .encodeRaw r => Sys2Proof.Machine.execEncodeRaw r s
  | .encodeAck => Sys2Proof.Machine.execEncodeAck s
  | .lookup table id => Sys2Proof.Machine.execLookup table id s
  | .onVersion t => Sys2Proof.Machine.execOnVersion t s
  | .assign kind record version => Sys2Proof.Machine.execAssign kind record version s
  | .scanDevices => Sys2Proof.Machine.execScanDevices s
  | .sendHead => Sys2Proof.Machine.execSendHead s
  | .retryOrDrop code => Sys2Proof.Machine.execRetryOrDrop code s
  | .createValidate => Sys2Proof.Machine.execCreateValidate s
  | .restoreWrite => Sys2Proof.Machine.execRestoreWrite s
  | .dispatch t refresh => Sys2Proof.Machine.execDispatch t refresh s
  | .connected now => Sys2Proof.Machine.execConnected now s
  | .txCapable now => Sys2Proof.Machine.execTxCapable now s

end Sys2Proof.Machine
end

