-- ==== Sys2Proof/Machine/Step.lean ====
section
/-! DEFINITION. One step: the next input event is processed to completion (00_scope.md R10). -/

namespace Sys2Proof.Machine

/-- Close the event where the operation answered a next state. -/
def finish (o : Host.Outcome State Fault Refusal) : Host.Outcome State Fault Refusal :=
  match o with
  | .next s => .next (endEvent s)
  | .fault f => .fault f
  | .refused r => .refused r

/-- One step. With no event pending the engine holds its state (60_exceptions.md R199; log 2). An RX event longer than
`MAX_FRAME_LEN` is refused (R41, R209). -/
def step (s : State) : Host.Outcome State Fault Refusal :=
  match s.inbox with
  | [] => .next s
  | e :: rest =>
    match decodeIn e s with
    | .error _ => .refused .frameTooLong
    | .ok i => finish (exec i (takeEvent e rest s))

/-- The state with a table word where `step` takes its next event (log 15). -/
def State.withFetchWord (s : State) (nbits w : Nat) : State := placeWord nbits w s

end Sys2Proof.Machine
end

