-- ==== Sys2Proof/Safety.lean ====
section
/-! DEFINITION. What a legal configuration and a legal state are, in the terms the statements use: the constraints of
00_scope.md R8, and the invariant of 10_state.md R19, R22, R23, R29. -/

namespace Sys2Proof

open Machine

/-- The constraints R8 puts on the OPEN parameters: the checksum table is a permutation of 0..255 (40_frame_codec.md
R84), the bounds, and burst reads that can be transmitted (41_device_registry.md R104). -/
structure Config.WF (c : Config) : Prop where
  crcLength : c.crcTable.length = 256
  crcNodup : c.crcTable.Nodup
  readReqLen_pos : 1 ≤ c.readReqLen.toNat
  queueDepth_pos : 1 ≤ c.queueDepth
  maxFrameLen_ge : 6 ≤ c.maxFrameLen
  burst : ∀ row ∈ c.initBurst, ∀ b ∈ row.reads, transmittable b.type = true

/-- The payload bounds of a request by its action (10_state.md R19): one count byte for a Read, the count 1 for a Validate,
`1..MAX_PAYLOAD` bytes for a Write, `1..MAX_FRAME_LEN - 1` for a Raw; a Validate keeps a Write's payload (R20). -/
def TxRequest.payloadOk (c : Config) (r : TxRequest) : Prop :=
  match r.action with
  | .read => r.payload.length = 1
  | .validate => r.payload = [0x01] ∧ 1 ≤ r.origPayload.length ∧ r.origPayload.length ≤ c.maxPayload
  | .write => 1 ≤ r.payload.length ∧ r.payload.length ≤ c.maxPayload
  | .raw => 1 ≤ r.payload.length ∧ r.payload.length + 1 ≤ c.maxFrameLen

/-- A request the engine can hold: types that can be transmitted, payload within bounds, retry count within the budget
(10_state.md R15, R19). -/
structure TxRequest.Ok (c : Config) (r : TxRequest) : Prop where
  type_ok : transmittable r.type = true
  postReadType_ok : transmittable r.postReadType = true
  payload_ok : r.payloadOk c
  retry_ok : r.retryCount.toNat ≤ maxRetries

/-- `tx_status = Wait` implies a head that is a Read, Write or Validate (10_state.md R23). -/
def InFlight (s : State) : Prop :=
  s.txStatus = .wait → ∃ r rest, s.q = r :: rest ∧ r.action ≠ .raw

/-- The invariant of the machine. -/
structure Inv (s : State) : Prop where
  cfg_ok : s.cfg.WF
  requests_ok : ∀ r ∈ s.q, r.Ok s.cfg
  queue_bound : s.q.length ≤ s.cfg.queueDepth
  in_flight : InFlight s
  handler_bound : s.handlers.length ≤ s.cfg.handlerSlots
  handler_keys : (s.handlers.map fun h => (h.scope, h.type)).Nodup

/-- The step from a state raises no fault. -/
def NoFault (s : State) : Prop := ∀ f, step s ≠ .fault f

/-- The counters of BusStatus are at least what they were. -/
def Machine.BusStatus.CountersLE (a b : BusStatus) : Prop :=
  a.rxPackets.toNat ≤ b.rxPackets.toNat ∧ a.txPackets.toNat ≤ b.txPackets.toNat ∧
    a.crcErrors.toNat ≤ b.crcErrors.toNat ∧ a.retryCount.toNat ≤ b.retryCount.toNat

/-- The outputs a state has beyond an earlier one. -/
def emitted (s s' : State) : List Output := s'.outbox.drop s.outbox.length

/-- The frames among outputs. -/
def txFrames (os : List Output) : List Frame :=
  os.filterMap fun o => match o with
    | .tx f => some f
    | _ => none

end Sys2Proof
end

