-- ==== Sys2Proof/Certificates/Slice0/Obligations.lean ====
section
/-! DEFINITION. The statements for the provers. Each docstring says which part of spec/ it formalises; a clause that rests on a
decision the spec marks as its own names it. -/

open Sys2Proof Sys2Proof.Machine

/-- Rests on 40_frame_codec.md, CHECKSUM (decision D3). CHECKSUM starts at 0x00 and folds each byte: table lookup
first, exclusive-or second. -/
def Obligations.ChecksumFoldsTableThenXor : Prop :=
  ∀ (s : State) (bs : List Byte) (b : Byte),
    exec (.checksum []) s = .next { s with result := .byte 0x00 } ∧
      ∃ v, exec (.checksum bs) s = .next { s with result := .byte v } ∧
        ∀ x, s.cfg.crcTable[v.toNat]? = some x →
          exec (.checksum (bs ++ [b])) s = .next { s with result := .byte (x ^^^ b) }

/-- Formalises R83. VERIFY answers whether the checksum of all but the last byte is the last byte. -/
def Obligations.VerifyComparesTheLastByte : Prop :=
  ∀ (s : State) (bs : List Byte) (b : Byte), bs ≠ [] →
    exec (.verify (bs ++ [b])) s = .next { s with result := .bit (decide (checksum s.cfg bs = b)) }

/-- Rests on 40_frame_codec.md, VERIFY (perturbation property, derived there from R81 and R83); 95_test_vectors.md S7.
With a checksum table that is a permutation, changing any one byte of a good frame fails VERIFY. -/
def Obligations.SingleByteChangeFailsVerify : Prop :=
  ∀ (c : Config), c.WF → ∀ (f : Frame) (k : Nat) (hk : k < f.length) (b : Byte), verify c f = true → f[k] ≠ b →
    verify c (f.set k b) = false

/-- Rests on 30_encoding.md section 1 (decision D23); 40_frame_codec.md, CLASSIFY. CLASSIFY answers the operation of
the receive map, row by row. For a frame longer than MAX_FRAME_LEN, that is the choice of log 27. -/
def Obligations.ClassifyFollowsTheReceiveMap : Prop :=
  ∀ (s : State) (f : Frame), ∃ op, exec (.classify f) s = .next { s with result := .op op } ∧
    (f = [] → op = .rxEmpty) ∧
    (f = [s.cfg.ownId.setWidth 8 ||| 0x80] → op = .rxPoll) ∧
    (f = [0x01] → s.txStatus = .wait → op = .rxWack) ∧
    (f = [0x04] → s.txStatus = .wait → op = .rxWnack) ∧
    (∀ b, f = [b] → b ≠ s.cfg.ownId.setWidth 8 ||| 0x80 → (s.txStatus = .wait → b ≠ 0x01 ∧ b ≠ 0x04) → op = .rxOther1) ∧
    (2 ≤ f.length → f.length ≤ 4 → op = .rxNoise) ∧
    (5 ≤ f.length → verify s.cfg f = false → op = .rxBadcrc) ∧
    (5 ≤ f.length → verify s.cfg f = true → decodeHeader s.cfg f = none → op = .rxNoise) ∧
    (5 ≤ f.length → verify s.cfg f = true → (decodeHeader s.cfg f).isSome = true → s.txStatus = .idle → op = .rxTlgIdle) ∧
    (5 ≤ f.length → verify s.cfg f = true → (decodeHeader s.cfg f).isSome = true → s.txStatus = .wait → op = .rxTlgWait)

/-- Formalises R86. DECODE_HEADER, standard form: every field of the Telegram from its byte. -/
def Obligations.StandardHeaderDecodes : Prop :=
  ∀ (s : State) (b0 b1 b2 b3 crc : Byte) (data : List Byte),
    data.length + 5 ≤ s.cfg.maxFrameLen → verify s.cfg (b0 :: b1 :: b2 :: b3 :: (data ++ [crc])) = true → b2.toNat < 0xF0 →
      exec (.decodeHeaderS (b0 :: b1 :: b2 :: b3 :: (data ++ [crc]))) s =
        .next { s with tlg := some { src := (b0 &&& 0x7F).setWidth 7, dest := (b1 &&& 0x7F).setWidth 7,
                                     destRw := decide (b1 &&& 0x80 ≠ 0), type := ⟨false, b2.setWidth 16⟩,
                                     offset := b3, data := data, checksumValid := true } }

/-- Rests on 40_frame_codec.md, DECODE_HEADER (R87, decision D5); 30_encoding.md section 4 (R66, decision D5).
DECODE_HEADER, extended form: the Telegram of EXT_LAYOUT's answer, none exactly where it answers none. How the OPEN
EXT_LAYOUT stands in the model is log 8. -/
def Obligations.ExtendedHeaderDecodes : Prop :=
  ∀ (s : State) (b0 b1 m : Byte) (tail : List Byte), ∀ f, f = b0 :: b1 :: m :: tail → 5 ≤ f.length →
    f.length ≤ s.cfg.maxFrameLen → verify s.cfg f = true → 0xF0 ≤ m.toNat →
      exec (.decodeHeaderX f) s =
        .next { s with tlg := (extLayout s.cfg f).map fun h =>
          { src := (b0 &&& 0x7F).setWidth 7, dest := (b1 &&& 0x7F).setWidth 7, destRw := decide (b1 &&& 0x80 ≠ 0),
            type := ⟨true, h.val⟩, offset := h.offset, data := h.data, checksumValid := true } } ∧
        ∀ h, extLayout s.cfg f = some h → ∃ p d hi lo, 4 ≤ p ∧ p + 1 ≤ f.length - 2 ∧ p + 2 ≤ d ∧ d ≤ f.length - 1 ∧
          f[p]? = some hi ∧ f[p + 1]? = some lo ∧ h.val = hi ++ lo ∧ h.data = f.dropLast.drop d

/-- Rests on 40_frame_codec.md, ENCODE (decisions D7, D9); 30_encoding.md section 6 (decisions D7, D9). ENCODE_RD,
ENCODE_WR and ENCODE_ACK leave the spec's frames in TXBUF. -/
def Obligations.EncodersBuildHeaderPayloadChecksum : Prop :=
  ∀ (s : State) (r : TxRequest), transmittable r.type = true →
    (∀ n h, (r.action = .read ∨ r.action = .validate) → r.payload = [n] →
      h = [s.cfg.ownId.setWidth 8, r.dest.setWidth 8 ||| 0x80, r.type.val.setWidth 8, r.offset, n] →
        exec (.encodeRd r) s = .next { s with txbuf := h ++ [checksum s.cfg h] }) ∧
    (∀ h, r.action = .write → 1 ≤ r.payload.length → r.payload.length ≤ s.cfg.maxFrameLen - 5 →
      h = [s.cfg.ownId.setWidth 8, r.dest.setWidth 8, r.type.val.setWidth 8, r.offset] ++ r.payload →
        exec (.encodeWr r) s = .next { s with txbuf := h ++ [checksum s.cfg h] }) ∧
    exec .encodeAck s = .next { s with txbuf := [s.cfg.ownId.setWidth 8] }

/-- Formalises R90. ENCODE_RAW leaves the payload followed by its checksum. -/
def Obligations.RawFrameAppendsChecksum : Prop :=
  ∀ (s : State) (r : TxRequest), r.action = .raw →
    exec (.encodeRaw r) s = .next { s with txbuf := r.payload ++ [checksum s.cfg r.payload] }

/-- Rests on 40_frame_codec.md, Properties (derived there); 30_encoding.md section 6 (decision D7). Every frame
assembled from a Read, Validate or Write verifies and decodes back to the request's fields. -/
def Obligations.OwnFramesDecodeToTheirRequests : Prop :=
  ∀ (c : Config) (r : TxRequest),
    (r.readable = true → verify c (encodeRd c r) = true ∧ (∃ b, (encodeRd c r)[2]? = some b ∧ b.toNat < 0xF0) ∧
      decodeHeader c (encodeRd c r) = some ⟨c.ownId, r.dest, true, r.type, r.offset, r.payload, true⟩) ∧
    (r.writable c = true → verify c (encodeWr c r) = true ∧ (∃ b, (encodeWr c r)[2]? = some b ∧ b.toNat < 0xF0) ∧
      decodeHeader c (encodeWr c r) = some ⟨c.ownId, r.dest, false, r.type, r.offset, r.payload, true⟩) ∧
    (r.action = .raw → verify c (encodeRaw c r) = true)

/-- Rests on 30_encoding.md sections 1 to 3, 6 and 7 (decisions D9, D33); opcode_table.json. The words of the opcode
table decode to their operations, 0x01 and 0x04 as commands. In which stream a word is read is the choice of log 15,
the configuration that of log 7; in the receive stream 0x01 and 0x04 are also RX_WACK and RX_WNACK. -/
def Obligations.TableWordsDecode : Prop :=
  decodeTableWord 8 0x8B = some (.rxPoll 0) ∧ decodeTableWord 8 0x0B = some .txAck ∧
    decodeTableWord 8 0x01 = some (.enqRead ⟨false, 0⟩ 0 false 0) ∧
    decodeTableWord 8 0x02 = some (.enqWrite ⟨false, 0⟩ 0 0 [] ⟨false, 0⟩ 0) ∧
    decodeTableWord 8 0x03 = some (.enqRaw [] 0) ∧ decodeTableWord 8 0x04 = some (.busStatus 0) ∧
    decodeTableWord 8 0x05 = some (.regSnapshot 0) ∧ decodeTableWord 8 0x06 = some (.rescan 0) ∧
    decodeTableWord 8 0x07 = some (.scan 0) ∧ decodeTableWord 8 0x08 = some (.clearQueue 0) ∧
    decodeTableWord 8 0x09 = some (.resetCounters 0) ∧ decodeTableWord 8 0x0A = some (.regHandler 0 ⟨false, 0⟩ 0 0) ∧
    decodeTableWord 8 0x0C = some (.cmdIllegal 0x0C 0) ∧
    decodeTableWord 48 0xBD0500180B08 =
      some (.rxTlgIdle ⟨0x08, 0x0B, false, ⟨false, 0x0018⟩, 0x00, [0x05], true⟩ 0)

/-- Rests on 30_encoding.md sections 1 to 3 and 7; 40_frame_codec.md, DECODE_HEADER. Decode of encode is the
operation, for every receive operation and host command. That extended telegrams have no encoding is log 18. -/
def Obligations.EventsDecodeToTheirOperations : Prop :=
  ∀ (c : Config) (st : TxStatus) (head : Option TxRequest) (i : Instr) (e : Event), 1 ≤ c.maxFrameLen →
    wellFormed c i = true → selectedIn c st head i = true → encode c i = some (.event e) →
      decodeEvent c st head e = .ok i

/-- Rests on 30_encoding.md section 6 (decisions D7, D9). Decode of encode is the operation, for the four transmit
formats. That bytes with the header of TX-RD or TX-WR are not read as TX-RAW is the choice of log 17. -/
def Obligations.TransmittedFramesDecodeToTheirFormats : Prop :=
  ∀ (c : Config) (i : Instr) (f : Frame), 6 ≤ c.maxFrameLen → wellFormed c i = true → encode c i = some (.tx f) →
    (∀ bytes, i = .txRaw bytes → headerForm c bytes = none) → decodeTx c f = .ok i

/-- Rests on 30_encoding.md section 1; 42_tx_state_machine.md section 4. Whatever an input event decodes to is
well-formed and selected in the state it was decoded in. -/
def Obligations.DecoderSelectsOnlyWhatApplies : Prop :=
  ∀ (c : Config) (st : TxStatus) (head : Option TxRequest) (e : Event) (i : Instr),
    decodeEvent c st head e = .ok i → wellFormed c i = true ∧ selectedIn c st head i = true

/-- Formalises R96. LOOKUP answers the first record with the product id, or none. -/
def Obligations.LookupAnswersTheFirstMatch : Prop :=
  ∀ (s : State) (k : Kind) (id : ProductId), ∃ o, exec (.lookup k id) s = .next { s with result := .record o } ∧
    ∀ table, table = (match k with | .boiler => s.cfg.boilerTable | .thermostat => s.cfg.thermostatTable) →
      (o = none ∧ ∀ r ∈ table, r.productId ≠ id) ∨
      (∃ pre r post, table = pre ++ r :: post ∧ (∀ x ∈ pre, x.productId ≠ id) ∧ r.productId = id ∧ o = some r)

/-- Rests on 41_device_registry.md, ASSIGN (decision D26, conflict C3). ASSIGN writes a free or matching slot once and
enqueues the burst; otherwise it changes nothing. -/
def Obligations.AssignActsOnceOnAFreeOrMatchingSlot : Prop :=
  ∀ (s : State) (rec : DeviceRecord) (ver : Byte × Byte),
    (∀ sl, sl = s.boiler →
      (sl.matched = true → exec (.assign .boiler rec ver) s = .next s) ∧
      (sl.id ≠ s.cfg.idNone → sl.id ≠ rec.typeId → exec (.assign .boiler rec ver) s = .next s) ∧
      (sl.matched = false → (sl.id = s.cfg.idNone ∨ sl.id = rec.typeId) → exec (.assign .boiler rec ver) s =
        .next { s with boiler := ⟨rec.typeId, true, rec.productId, rec.modelId, rec.readSupported, rec.writeSupported,
                                  rec.brand, ver⟩,
                       q := s.q ++ ((burstReads s.cfg.initBurst .boiler rec).map fun b =>
                         readRequest s.cfg b.type b.dest b.forceRefresh).take (s.cfg.queueDepth - s.q.length) })) ∧
    (∀ sl, sl = s.thermostat →
      (sl.matched = true → exec (.assign .thermostat rec ver) s = .next s) ∧
      (sl.id ≠ s.cfg.idNone → sl.id ≠ rec.typeId → exec (.assign .thermostat rec ver) s = .next s) ∧
      (sl.matched = false → (sl.id = s.cfg.idNone ∨ sl.id = rec.typeId) → exec (.assign .thermostat rec ver) s =
        .next { s with thermostat := ⟨rec.typeId, true, rec.productId, rec.modelId, rec.readSupported,
                                      rec.writeSupported, rec.brand, ver⟩,
                       q := s.q ++ ((burstReads s.cfg.initBurst .thermostat rec).map fun b =>
                         readRequest s.cfg b.type b.dest b.forceRefresh).take (s.cfg.queueDepth - s.q.length) }))

/-- Rests on 41_device_registry.md, ON_VERSION (decision D26). ON_VERSION assigns by the boiler table first, then the
thermostat table, else does nothing. -/
def Obligations.VersionTelegramTriesBoilerThenThermostat : Prop :=
  ∀ (s : State) (t : Telegram), t.wellFormed s.cfg = true → t.type = ⟨false, 0x0002⟩ →
    (versionParse s.cfg t.offset t.data = none → exec (.onVersion t) s = .next s) ∧
    ∀ pid ver, versionParse s.cfg t.offset t.data = some (pid, ver) →
      (∀ rec, lookup s.cfg.boilerTable pid = some rec →
        ∃ u, exec (.assign .boiler rec ver) s = .next u ∧ exec (.onVersion t) s = .next u) ∧
      (∀ rec, lookup s.cfg.boilerTable pid = none → lookup s.cfg.thermostatTable pid = some rec →
        ∃ u, exec (.assign .thermostat rec ver) s = .next u ∧ exec (.onVersion t) s = .next u) ∧
      (lookup s.cfg.boilerTable pid = none → lookup s.cfg.thermostatTable pid = none →
        exec (.onVersion t) s = .next s)

/-- Rests on 41_device_registry.md, ASSIGN (derived there from R97 and R98); 95_test_vectors.md S6. A Version telegram
processed a second time changes nothing. -/
def Obligations.RepeatedVersionTelegramIsANoOp : Prop :=
  ∀ (s u : State) (t : Telegram), exec (.onVersion t) s = .next u → exec (.onVersion t) u = .next u

/-- Rests on 41_device_registry.md, SCAN (decision D29). SCAN_DEVICES enqueues one Version read per known device id,
in order of first occurrence. -/
def Obligations.ScanReadsEachKnownDeviceOnce : Prop :=
  ∀ (s : State), ∃ ids : List DevId,
    exec .scanDevices s = .next { s with
      q := s.q ++ (ids.map fun d => readRequest s.cfg ⟨false, 0x0002⟩ d false).take (s.cfg.queueDepth - s.q.length),
      result := .full (decide (s.cfg.queueDepth - s.q.length < ids.length)) } ∧
    (∀ d, d ∈ ids ↔ d ≠ s.cfg.idNone ∧ ∃ rec ∈ s.cfg.boilerTable ++ s.cfg.thermostatTable, rec.typeId = d) ∧
    ids.Pairwise fun a b => ((s.cfg.boilerTable ++ s.cfg.thermostatTable).map (·.typeId)).idxOf a <
      ((s.cfg.boilerTable ++ s.cfg.thermostatTable).map (·.typeId)).idxOf b

/-- Rests on 42_tx_state_machine.md section 2 (R109); 40_frame_codec.md, ENCODE_ACK (decision D9). RX_POLL records the
poll and sends the head when Idle with work queued, else the poll-ack. -/
def Obligations.OwnPollIsAnswered : Prop :=
  ∀ (s : State) (now : Time) (p : State), p = { s with bus := { s.bus with lastPoll := some now } } →
    ((s.q = [] ∨ s.txStatus = .wait) → exec (.rxPoll now) s =
      .next { p with txbuf := [], outbox := s.outbox ++ [.tx [s.cfg.ownId.setWidth 8]] }) ∧
    (∀ r rest, s.q = r :: rest → s.txStatus = .idle →
      ∃ u, exec .sendHead p = .next u ∧ exec (.rxPoll now) s = .next u)

/-- Rests on 42_tx_state_machine.md, SEND_HEAD (decision D25); 30_encoding.md section 7 (decision D33). SEND_HEAD
sends the head's frame: Read, Validate and Write wait for the answer, Raw is dropped at once. For a head outside the
bounds of 10_state.md R19, that is the choice of log 12 and log 27. -/
def Obligations.HeadIsSentByItsAction : Prop :=
  ∀ (s : State) (r : TxRequest) (rest : List TxRequest), s.txStatus = .idle → s.q = r :: rest →
    ((r.action = .read ∨ r.action = .validate) → exec .sendHead s =
      .next { s with txStatus := .wait, txbuf := [], outbox := s.outbox ++ [.tx (encodeRd s.cfg r)] }) ∧
    (r.action = .write → exec .sendHead s =
      .next { s with txStatus := .wait, txbuf := [], outbox := s.outbox ++ [.tx (encodeWr s.cfg r)] }) ∧
    (r.action = .raw → exec .sendHead s =
      .next { s with q := rest, txbuf := [], outbox := s.outbox ++ [.tx (encodeRaw s.cfg r)] })

/-- Rests on 30_encoding.md sections 6 and 7 (decisions D7, D9, D33). TX_RD, TX_WR and TX_RAW of the head's fields
send what SEND_HEAD sends; TX_ACK sends OWN_ID. That TX_RD, TX_WR and TX_RAW are operations with SEND_HEAD's effect is
the choice of log 17; that TX_ACK sends in every state, without the event that asks for it, and that a head outside
its bounds is sent as it stands, that of log 27. -/
def Obligations.TransmitFormatsSendTheHead : Prop :=
  ∀ (s : State),
    exec .txAck s = .next { s with txbuf := [], outbox := s.outbox ++ [.tx [s.cfg.ownId.setWidth 8]] } ∧
    ∀ r rest, s.txStatus = .idle → s.q = r :: rest →
      (∀ n h, (r.action = .read ∨ r.action = .validate) → r.payload = [n] →
        h = [s.cfg.ownId.setWidth 8, r.dest.setWidth 8 ||| 0x80, r.type.val.setWidth 8, r.offset, n] →
          exec (.txRd r.dest (r.type.val.setWidth 8) r.offset n) s =
            .next { s with txStatus := .wait, txbuf := [], outbox := s.outbox ++ [.tx (h ++ [checksum s.cfg h])] }) ∧
      (∀ h, r.action = .write →
        h = [s.cfg.ownId.setWidth 8, r.dest.setWidth 8, r.type.val.setWidth 8, r.offset] ++ r.payload →
          exec (.txWr r.dest (r.type.val.setWidth 8) r.offset r.payload) s =
            .next { s with txStatus := .wait, txbuf := [], outbox := s.outbox ++ [.tx (h ++ [checksum s.cfg h])] }) ∧
      (r.action = .raw → exec (.txRaw r.payload) s =
        .next { s with q := rest, txbuf := [],
                       outbox := s.outbox ++ [.tx (r.payload ++ [checksum s.cfg r.payload])] })

/-- Rests on 42_tx_state_machine.md section 2 (conflict C2, decision D16). RX_WACK counts, acknowledges, and turns a
Write head into its Validate with Idle; another head stays in Wait. -/
def Obligations.WriteAckConvertsTheWrite : Prop :=
  ∀ (s p : State) (now : Time), s.txStatus = .wait →
    p = { s with bus := { s.bus with txPackets := satInc s.bus.txPackets }, txbuf := [],
                 outbox := s.outbox ++ [.tx [s.cfg.ownId.setWidth 8]] } →
    (∀ r rest, s.q = r :: rest → r.action = .write → exec (.rxWack now) s =
      .next { p with txStatus := .idle,
                     q := { r with origOffset := r.offset, origPayload := r.payload, offset := r.compareOffset,
                                   payload := [0x01], action := .validate } :: rest }) ∧
    ((∀ r rest, s.q = r :: rest → r.action ≠ .write) → exec (.rxWack now) s = .next p)

/-- Rests on 42_tx_state_machine.md section 2 (decision D17); 60_exceptions.md section 2 (decision D32). RX_WNACK
acknowledges, reports and drops the head, and sets Idle. -/
def Obligations.WriteNackDropsTheHead : Prop :=
  ∀ (s : State) (now : Time), s.txStatus = .wait →
    (∀ r rest, s.q = r :: rest → exec (.rxWnack now) s =
      .next { s with txStatus := .idle, q := rest, txbuf := [],
                     outbox := s.outbox ++ [.tx [s.cfg.ownId.setWidth 8], .evt .writeNacked r.type r.dest] }) ∧
    (s.q = [] → exec (.rxWnack now) s =
      .next { s with txStatus := .idle, txbuf := [], outbox := s.outbox ++ [.tx [s.cfg.ownId.setWidth 8]] })

/-- Rests on 42_tx_state_machine.md section 2 (decision D23). RX_EMPTY and RX_OTHER1 change nothing and emit nothing.
For a byte that its row does not select, that is the choice of log 27. -/
def Obligations.IgnoredFramesDoNothing : Prop :=
  ∀ (s : State) (b : Byte) (now : Time), exec (.rxEmpty now) s = .next s ∧ exec (.rxOther1 b now) s = .next s

/-- Rests on 42_tx_state_machine.md section 3 (R114) and section 4 (decision D12). RX_NOISE discards the frame: no
counter, no status, no queue change, no output. For a frame that no row of RX_NOISE selects, that is the choice of log
27. -/
def Obligations.NoiseMovesNoCounter : Prop :=
  ∀ (s : State) (f : Frame) (now : Time),
    (2 ≤ f.length → f.length ≤ 4 → exec (.rxNoise f now) s = .next s) ∧
    (5 ≤ f.length → exec (.rxNoise f now) s = .next { s with bus := { s.bus with lastRx := some now } })

/-- Rests on 42_tx_state_machine.md section 3 (R115). A frame of telegram length with a bad checksum costs one step
that only counts it. The exec clause on a frame that its row does not select is the choice of log 27, not R115. -/
def Obligations.BadChecksumOnlyCounts : Prop :=
  ∀ (s : State) (f : Frame) (now : Time) (crc : Count), crc.toNat = min (s.bus.crcErrors.toNat + 1) (2 ^ 32 - 1) →
    exec (.rxBadcrc f now) s = .next { s with bus := { s.bus with crcErrors := crc } } ∧
    ∀ rest, s.inbox = .rx f now :: rest → 5 ≤ f.length → f.length ≤ s.cfg.maxFrameLen → verify s.cfg f = false →
      step s = .next { s with bus := { s.bus with crcErrors := crc }, inbox := rest, rxbuf := [], tlg := none }

/-- Rests on 42_tx_state_machine.md section 4 (R117; decision D12). RX_TLG_IDLE dispatches with refresh 0: no
poll-ack, no Read counted, status Idle. For a Telegram that no decoder gives, that is the choice of log 27. -/
def Obligations.IdleTelegramIsOnlyDispatched : Prop :=
  ∀ (s : State) (t : Telegram) (now : Time), s.txStatus = .idle →
    ∃ u, exec (.dispatch t false) { s with bus := { s.bus with lastRx := some now }, tlg := some t } = .next u ∧
      exec (.rxTlgIdle t now) s = .next u ∧ txFrames (emitted s u) = [] ∧ u.txStatus = .idle ∧
      u.bus = { s.bus with lastRx := some now } ∧ u.handlers = s.handlers ∧
      (t.type ≠ ⟨false, 0x0002⟩ → u.q = s.q ∧ u.boiler = s.boiler ∧ u.thermostat = s.thermostat)

/-- Rests on 42_tx_state_machine.md section 4 (decisions D12, D18). RX_TLG_WAIT.NOTOURS: Idle, head removed without
EVT or retry, the telegram dispatched, no poll-ack. For a Telegram that no decoder gives, that is the choice of log
27. -/
def Obligations.ForeignTelegramDropsTheHead : Prop :=
  ∀ (s : State) (t : Telegram) (now : Time) (r : TxRequest) (rest : List TxRequest),
    s.txStatus = .wait → s.q = r :: rest → t.dest ≠ s.cfg.ownId →
      ∃ u, exec (.dispatch t false) { s with bus := { s.bus with lastRx := some now }, tlg := some t,
                                             txStatus := .idle, q := rest } = .next u ∧
        exec (.rxTlgWaitNotOurs t now) s = .next u ∧ txFrames (emitted s u) = []

/-- Rests on 42_tx_state_machine.md section 4 (decisions D12, D18, D22). RX_TLG_WAIT.READ with a matching reply: head
removed, rx_packets counted, dispatch with the request's refresh, poll-ack. For a Telegram that no decoder gives, that
is the choice of log 27. -/
def Obligations.MatchingReplyCompletesTheRead : Prop :=
  ∀ (s : State) (t : Telegram) (now : Time) (r : TxRequest) (rest : List TxRequest),
    s.txStatus = .wait → s.q = r :: rest → r.action = .read → t.dest = s.cfg.ownId → t.src = r.dest → t.type = r.type →
      ∃ u, exec (.dispatch t r.forceRefresh)
          { s with bus := { s.bus with lastRx := some now, rxPackets := satInc s.bus.rxPackets }, tlg := some t,
                   txStatus := .idle, q := rest } = .next u ∧
        exec (.rxTlgWaitRead t now) s =
          .next { u with txbuf := [], outbox := u.outbox ++ [.tx [s.cfg.ownId.setWidth 8]] }

/-- Rests on 42_tx_state_machine.md section 4 (decisions D12, D18, D41; conflict C1). RX_TLG_WAIT.READ with another
source or type: first and second mismatch kept, third dropped with EVT ReadGaveUp. For a Telegram that no decoder
gives, that is the choice of log 27. -/
def Obligations.MismatchingReplyRetriesOrGivesUp : Prop :=
  ∀ (s : State) (t : Telegram) (now : Time) (r : TxRequest) (rest : List TxRequest),
    s.txStatus = .wait → s.q = r :: rest → r.action = .read → t.dest = s.cfg.ownId → (t.src ≠ r.dest ∨ t.type ≠ r.type) →
      ∀ p, p = { s with bus := { s.bus with lastRx := some now, retryCount := satInc s.bus.retryCount }, tlg := some t,
                        txStatus := .idle } →
      (r.retryCount.toNat < 2 → ∃ u,
        exec (.dispatch t false) { p with q := { r with retryCount := r.retryCount + 1 } :: rest } = .next u ∧
          exec (.rxTlgWaitRead t now) s =
            .next { u with txbuf := [], outbox := u.outbox ++ [.tx [s.cfg.ownId.setWidth 8]] }) ∧
      (r.retryCount.toNat = 2 → ∃ u,
        exec (.dispatch t false)
            { p with q := rest, outbox := s.outbox ++ [.evt .readGaveUp r.type r.dest] } = .next u ∧
          exec (.rxTlgWaitRead t now) s =
            .next { u with txbuf := [], outbox := u.outbox ++ [.tx [s.cfg.ownId.setWidth 8]] })

/-- Rests on 42_tx_state_machine.md section 4 (decision D41; conflicts C1, C4). RETRY_OR_DROP counts a mismatch twice
and drops the head on the third. -/
def Obligations.RetryOrDropBoundsTheExchange : Prop :=
  ∀ (s : State) (r : TxRequest) (rest : List TxRequest) (g : GiveUp), s.q = r :: rest →
    (r.retryCount.toNat < 2 → exec (.retryOrDrop g) s =
      .next { s with q := { r with retryCount := r.retryCount + 1 } :: rest,
                     bus := { s.bus with retryCount := satInc s.bus.retryCount }, result := .kept true }) ∧
    (r.retryCount.toNat = 2 → exec (.retryOrDrop g) s =
      .next { s with q := rest, bus := { s.bus with retryCount := satInc s.bus.retryCount }, result := .kept false,
                     outbox := s.outbox ++ [.evt (match g with | .readGaveUp => .readGaveUp | .writeFailed => .writeFailed)
                       r.type r.dest] })

/-- Rests on 42_tx_state_machine.md section 4 (decisions D12, D18, D19, D20). RX_TLG_WAIT.VALIDATE with the expected
byte: head removed, post-read at the tail, poll-ack, no dispatch. For a Telegram that no decoder gives, that is the
choice of log 27. -/
def Obligations.ValidatedWriteEnqueuesPostRead : Prop :=
  ∀ (s : State) (t : Telegram) (now : Time) (r : TxRequest) (rest : List TxRequest) (more : List Byte),
    s.txStatus = .wait → s.q = r :: rest → r.action = .validate → t.dest = s.cfg.ownId → rest.length < s.cfg.queueDepth →
    t.data = r.compareValue :: more →
      exec (.rxTlgWaitValidate t now) s =
        .next { s with bus := { s.bus with lastRx := some now }, tlg := some t, txStatus := .idle,
                       q := rest ++ [readRequest s.cfg r.postReadType r.dest true], txbuf := [],
                       outbox := s.outbox ++ [.tx [s.cfg.ownId.setWidth 8]] }

/-- Rests on 42_tx_state_machine.md section 4 (decisions D12, D18, D19, D41; conflict C1). RX_TLG_WAIT.VALIDATE with
another byte or none: the Write again, or on the third mismatch EVT WriteFailed; poll-ack. For a Telegram that no
decoder gives, that is the choice of log 27. -/
def Obligations.FailedValidateRestoresTheWriteOrFails : Prop :=
  ∀ (s : State) (t : Telegram) (now : Time) (r : TxRequest) (rest : List TxRequest),
    s.txStatus = .wait → s.q = r :: rest → r.action = .validate → t.dest = s.cfg.ownId →
    (∀ more, t.data ≠ r.compareValue :: more) →
      ∀ p, p = { s with bus := { s.bus with lastRx := some now, retryCount := satInc s.bus.retryCount }, tlg := some t,
                        txStatus := .idle, txbuf := [] } →
      (r.retryCount.toNat < 2 → exec (.rxTlgWaitValidate t now) s =
        .next { p with q := { r with retryCount := r.retryCount + 1, offset := r.origOffset, payload := r.origPayload,
                                     action := .write } :: rest,
                       outbox := s.outbox ++ [.tx [s.cfg.ownId.setWidth 8]] }) ∧
      (r.retryCount.toNat = 2 → exec (.rxTlgWaitValidate t now) s =
        .next { p with q := rest,
                       outbox := s.outbox ++ [.evt .writeFailed r.type r.dest, .tx [s.cfg.ownId.setWidth 8]] })

/-- Rests on 42_tx_state_machine.md section 4 (R122; decisions D12, D18); 40_frame_codec.md, ENCODE_ACK (decision D9).
RX_TLG_WAIT.WRITE: EVT InternalInconsistency, the head kept as it is, Idle, poll-ack, no dispatch. For a Telegram that
no decoder gives, that is the choice of log 27. -/
def Obligations.TelegramOnWriteHeadIsOnlyReported : Prop :=
  ∀ (s : State) (t : Telegram) (now : Time) (r : TxRequest) (rest : List TxRequest),
    s.txStatus = .wait → s.q = r :: rest → r.action = .write → t.dest = s.cfg.ownId →
      exec (.rxTlgWaitWrite t now) s =
        .next { s with bus := { s.bus with lastRx := some now }, tlg := some t, txStatus := .idle, txbuf := [],
                       outbox := s.outbox ++
                         [.evt .internalInconsistency r.type r.dest, .tx [s.cfg.ownId.setWidth 8]] }

/-- Rests on 42_tx_state_machine.md section 4 (decision D21). RX_TLG_WAIT.OTHER: the empty queue dispatches, a Raw
head is reported. For a Telegram that no decoder gives, that is the choice of log 27. -/
def Obligations.UnreachableWaitCasesAreDefined : Prop :=
  ∀ (s : State) (t : Telegram) (now : Time), s.txStatus = .wait →
    ∀ p, p = { s with bus := { s.bus with lastRx := some now }, tlg := some t, txStatus := .idle } →
    (s.q = [] → ∃ u, exec (.dispatch t false) p = .next u ∧
      (t.dest = s.cfg.ownId → exec (.rxTlgWaitOther t now) s =
        .next { u with txbuf := [], outbox := u.outbox ++ [.tx [s.cfg.ownId.setWidth 8]] }) ∧
      (t.dest ≠ s.cfg.ownId → exec (.rxTlgWaitOther t now) s = .next u)) ∧
    (∀ r rest, s.q = r :: rest → r.action = .raw → t.dest = s.cfg.ownId → exec (.rxTlgWaitOther t now) s =
      .next { p with txbuf := [],
                     outbox := s.outbox ++
                       [.evt .internalInconsistency r.type r.dest, .tx [s.cfg.ownId.setWidth 8]] })

/-- Formalises R125. CREATE_VALIDATE turns the Write head into its Validate in place. -/
def Obligations.CreateValidateConvertsTheHead : Prop :=
  ∀ (s : State) (r : TxRequest) (rest : List TxRequest), s.q = r :: rest → r.action = .write →
    exec .createValidate s =
      .next { s with q := { r with origOffset := r.offset, origPayload := r.payload, offset := r.compareOffset,
                                   payload := [0x01], action := .validate } :: rest }

/-- Formalises R126. RESTORE_WRITE turns the Validate head back into its Write, the original one after
CREATE_VALIDATE. -/
def Obligations.RestoreWriteUndoesCreateValidate : Prop :=
  ∀ (s : State) (r : TxRequest) (rest : List TxRequest), s.q = r :: rest →
    (r.action = .validate → exec .restoreWrite s =
      .next { s with q := { r with offset := r.origOffset, payload := r.origPayload, action := .write } :: rest }) ∧
    (r.action = .write → ∃ u, exec .createValidate s = .next u ∧ exec .restoreWrite u =
      .next { s with q := { r with origOffset := r.offset, origPayload := r.payload } :: rest })

/-- Formalises R142. DISPATCH: one DISP, the Version routing, then one HCALL per handler that passes the gate, in
table order. -/
def Obligations.DispatchGatesHandlers : Prop :=
  ∀ (s : State) (t : Telegram) (refresh : Bool), ∃ v calls fields,
    fields = ⟨t.src, t.dest, t.destRw, t.type, t.offset, t.data, refresh⟩ ∧
    (t.type = ⟨false, 0x0002⟩ → v = onVersion t s) ∧ (t.type ≠ ⟨false, 0x0002⟩ → v = s) ∧
    exec (.dispatch t refresh) s = .next { v with outbox := s.outbox ++ .disp fields :: calls } ∧
    (t.offset ≠ 0 → calls = []) ∧
    (t.offset = 0 → calls = (s.handlers.filter fun e => decide (e.type = t.type ∧ (e.scope = .common ∨
        (v.boiler.id ≠ s.cfg.idNone ∧ t.src = v.boiler.id) ∨
        (v.thermostat.id ≠ s.cfg.idNone ∧ t.src = v.thermostat.id)))).map
      fun e => Output.hcall e.cb e.scope fields)

/-- Formalises R145. A telegram with an offset other than 0 is strobed and routed, and calls no handler. -/
def Obligations.PartialTelegramCallsNoHandler : Prop :=
  ∀ (s : State) (t : Telegram) (refresh : Bool), t.offset ≠ 0 →
    exec (.dispatch t refresh) s =
      .next { (if t.type = ⟨false, 0x0002⟩ then onVersion t s else s) with
        outbox := s.outbox ++ [.disp ⟨t.src, t.dest, t.destRw, t.type, t.offset, t.data, refresh⟩] }

/-- Formalises R147. A telegram that no handler entry matches produces its DISP and nothing else of the dispatcher. -/
def Obligations.UnknownTypeIsIgnored : Prop :=
  ∀ (s v : State) (t : Telegram) (refresh : Bool), v = (if t.type = ⟨false, 0x0002⟩ then onVersion t s else s) →
    (∀ e ∈ s.handlers, e.type = t.type → e.scope = .modelSpecific ∧
      (v.boiler.id = s.cfg.idNone ∨ t.src ≠ v.boiler.id) ∧ (v.thermostat.id = s.cfg.idNone ∨ t.src ≠ v.thermostat.id)) →
    exec (.dispatch t refresh) s =
      .next { v with outbox := s.outbox ++ [.disp ⟨t.src, t.dest, t.destRw, t.type, t.offset, t.data, refresh⟩] }

/-- Rests on 44_bus_status.md, CONNECTED and TX_CAPABLE (decisions D2, D12). CONNECTED and TX_CAPABLE answer whether
the timestamp is younger than 15000 ms and 5000 ms. -/
def Obligations.LivenessPredicatesAreAgeTests : Prop :=
  ∀ (s : State) (now : Time), ∃ a b,
    exec (.connected now) s = .next { s with result := .bit a } ∧ exec (.txCapable now) s = .next { s with result := .bit b } ∧
    (s.bus.lastRx = none → a = false) ∧ (s.bus.lastPoll = none → b = false) ∧
    (∀ ts, s.bus.lastRx = some ts → (ts.toNat ≤ now.toNat → (a = true ↔ now.toNat < ts.toNat + 15000)) ∧
      (now.toNat < ts.toNat → a = true)) ∧
    (∀ ts, s.bus.lastPoll = some ts → (ts.toNat ≤ now.toNat → (b = true ↔ now.toNat < ts.toNat + 5000)) ∧
      (now.toNat < ts.toNat → b = true))

/-- Rests on 45_host_commands.md, ENQ_READ (decision D14) and operand validation (decision D10). ENQ_READ appends the
Read it describes, or answers QUEUE_FULL or BAD_OPERAND and changes nothing. -/
def Obligations.EnqReadAppendsOrRefuses : Prop :=
  ∀ (s : State) (type : TypeId) (dest : Byte) (fr : Bool) (now : Time),
    ((type.ext = true ∨ 0xEF < type.val.toNat ∨ 0x7F < dest.toNat) → exec (.enqRead type dest fr now) s =
      .next { s with outbox := s.outbox ++ [.resp .badOperand .none] }) ∧
    (type.ext = false → type.val.toNat ≤ 0xEF → dest.toNat ≤ 0x7F →
      (s.q.length < s.cfg.queueDepth → exec (.enqRead type dest fr now) s =
        .next { s with q := s.q ++ [{ action := .read, dest := dest.setWidth 7, type := type, offset := 0,
                                      payload := [s.cfg.readReqLen], validateType := ⟨false, 0⟩, compareOffset := 0,
                                      compareValue := 0, postReadType := ⟨false, 0⟩, forceRefresh := fr, retryCount := 0,
                                      origOffset := 0, origPayload := [] }],
                       outbox := s.outbox ++ [.resp .ok .none] }) ∧
      (s.cfg.queueDepth ≤ s.q.length → exec (.enqRead type dest fr now) s =
        .next { s with outbox := s.outbox ++ [.resp .queueFull .none] }))

/-- Rests on 45_host_commands.md, ENQ_WRITE (decision D15) and operand validation (decision D10). ENQ_WRITE appends
the Write it describes, or answers QUEUE_FULL or BAD_OPERAND and changes nothing. -/
def Obligations.EnqWriteAppendsOrRefuses : Prop :=
  ∀ (s : State) (type : TypeId) (dest : Byte) (offset : Offset) (payload : List Byte) (vt : TypeId) (now : Time),
    ((type.ext = true ∨ 0xEF < type.val.toNat ∨ 0x7F < dest.toNat ∨ payload = [] ∨
        s.cfg.maxFrameLen - 5 < payload.length) →
      exec (.enqWrite type dest offset payload vt now) s =
        .next { s with outbox := s.outbox ++ [.resp .badOperand .none] }) ∧
    (∀ b more, type.ext = false → type.val.toNat ≤ 0xEF → dest.toNat ≤ 0x7F → payload = b :: more →
      payload.length ≤ s.cfg.maxFrameLen - 5 →
      (s.q.length < s.cfg.queueDepth → exec (.enqWrite type dest offset payload vt now) s =
        .next { s with q := s.q ++ [{ action := .write, dest := dest.setWidth 7, type := type, offset := offset,
                                      payload := payload, validateType := vt, compareOffset := offset, compareValue := b,
                                      postReadType := type, forceRefresh := false, retryCount := 0, origOffset := 0,
                                      origPayload := [] }],
                       outbox := s.outbox ++ [.resp .ok .none] }) ∧
      (s.cfg.queueDepth ≤ s.q.length → exec (.enqWrite type dest offset payload vt now) s =
        .next { s with outbox := s.outbox ++ [.resp .queueFull .none] }))

/-- Rests on 45_host_commands.md, ENQ_RAW (decision D25). ENQ_RAW appends the Raw request, or answers QUEUE_FULL or
BAD_OPERAND and changes nothing. -/
def Obligations.EnqRawAppendsOrRefuses : Prop :=
  ∀ (s : State) (bytes : List Byte) (now : Time),
    ((bytes = [] ∨ s.cfg.maxFrameLen - 1 < bytes.length) → exec (.enqRaw bytes now) s =
      .next { s with outbox := s.outbox ++ [.resp .badOperand .none] }) ∧
    (1 ≤ bytes.length → bytes.length ≤ s.cfg.maxFrameLen - 1 →
      (s.q.length < s.cfg.queueDepth → exec (.enqRaw bytes now) s =
        .next { s with q := s.q ++ [{ action := .raw, dest := 0, type := ⟨false, 0⟩, offset := 0, payload := bytes,
                                      validateType := ⟨false, 0⟩, compareOffset := 0, compareValue := 0,
                                      postReadType := ⟨false, 0⟩, forceRefresh := false, retryCount := 0, origOffset := 0,
                                      origPayload := [] }],
                       outbox := s.outbox ++ [.resp .ok .none] }) ∧
      (s.cfg.queueDepth ≤ s.q.length → exec (.enqRaw bytes now) s =
        .next { s with outbox := s.outbox ++ [.resp .queueFull .none] }))

/-- Rests on 45_host_commands.md, status access (decisions D39, D43). BUS_STATUS and REG_SNAPSHOT answer the state's
values and change nothing. -/
def Obligations.StatusCommandsAreReads : Prop :=
  ∀ (s : State) (now : Time),
    exec (.busStatus now) s = .next { s with outbox := s.outbox ++ [.resp .ok (.status
      { rxPackets := s.bus.rxPackets, txPackets := s.bus.txPackets, crcErrors := s.bus.crcErrors,
        retryCount := s.bus.retryCount, lastRx := s.bus.lastRx, lastPoll := s.bus.lastPoll,
        connected := Machine.connected s.bus now, txCapable := Machine.txCapable s.bus now,
        txStatus := s.txStatus, queueLen := s.q.length })] } ∧
    exec (.regSnapshot now) s =
      .next { s with outbox := s.outbox ++ [.resp .ok (.snapshot s.boiler s.thermostat)] }

/-- Rests on 45_host_commands.md, system operations (decisions D29, D40). SCAN, CLEAR_QUEUE, RESCAN and RESET_COUNTERS
do what they name and answer. -/
def Obligations.SystemCommandsReset : Prop :=
  ∀ (s : State) (now : Time),
    exec (.clearQueue now) s =
      .next { s with q := [], txStatus := .idle, outbox := s.outbox ++ [.resp .ok .none] } ∧
    exec (.resetCounters now) s =
      .next { s with bus := ⟨0, 0, 0, 0, s.bus.lastRx, s.bus.lastPoll⟩, outbox := s.outbox ++ [.resp .ok .none] } ∧
    (∃ u full, exec .scanDevices s = .next u ∧ u.result = .full full ∧ exec (.scan now) s =
      .next { u with result := s.result,
                     outbox := s.outbox ++ [.resp (if full then .queueFull else .ok) .none] }) ∧
    (∃ u full, exec .scanDevices
        { s with boiler := ⟨s.cfg.preconfBoilerId, false, 0, 0, false, false, 0, (0, 0)⟩,
                 thermostat := ⟨s.cfg.preconfThermostatId, false, 0, 0, false, false, 0, (0, 0)⟩,
                 q := [], txStatus := .idle } = .next u ∧
      u.result = .full full ∧ exec (.rescan now) s =
      .next { u with result := s.result,
                     outbox := s.outbox ++ [.resp (if full then .queueFull else .ok) .none] })

/-- Rests on 45_host_commands.md, REG_HANDLER (decision D30) and operand validation. REG_HANDLER replaces the callback
of its key in place, else appends, else answers TABLE_FULL; unknown codes and scopes are refused. CMD_ILLEGAL run with
one of the codes 0x01 to 0x0A is the choice of log 27. -/
def Obligations.HandlerRegistrationReplacesOrAppends : Prop :=
  ∀ (s : State) (sc : Byte) (scope : Scope) (type : TypeId) (cb : CbId) (now : Time),
    ((sc = 0 ∧ scope = .common) ∨ (sc = 1 ∧ scope = .modelSpecific) →
      (∀ pre h post, s.handlers = pre ++ h :: post → (∀ x ∈ pre, ¬(x.scope = scope ∧ x.type = type)) →
        h.scope = scope → h.type = type → exec (.regHandler sc type cb now) s =
          .next { s with handlers := pre ++ ⟨scope, type, cb⟩ :: post, outbox := s.outbox ++ [.resp .ok .none] }) ∧
      ((∀ x ∈ s.handlers, ¬(x.scope = scope ∧ x.type = type)) →
        (s.handlers.length < s.cfg.handlerSlots → exec (.regHandler sc type cb now) s =
          .next { s with handlers := s.handlers ++ [⟨scope, type, cb⟩], outbox := s.outbox ++ [.resp .ok .none] }) ∧
        (s.cfg.handlerSlots ≤ s.handlers.length → exec (.regHandler sc type cb now) s =
          .next { s with outbox := s.outbox ++ [.resp .tableFull .none] }))) ∧
    (1 < sc.toNat → exec (.regHandler sc type cb now) s =
      .next { s with outbox := s.outbox ++ [.resp .badOperand .none] }) ∧
    (∀ code, exec (.cmdIllegal code now) s = .next { s with outbox := s.outbox ++ [.resp .badOperand .none] })

/-- Rests on 10_state.md section 7 (decision D34); 70_reset_and_hazards.md section 1 (decision D34). Reset leaves
Idle, an empty queue, zero counters, no timestamps, slots at the pre-configured ids, no handlers. The outbox and inbox
are the model's own (log 2, log 3), the default configuration is the choice of log 7. -/
def Obligations.ResetStateIsTheSpecs : Prop :=
  (∀ c, (State.resetOf c).cfg = c ∧ (State.resetOf c).txStatus = .idle ∧ (State.resetOf c).q = [] ∧
      (State.resetOf c).bus = ⟨0, 0, 0, 0, none, none⟩ ∧
      (State.resetOf c).boiler = ⟨c.preconfBoilerId, false, 0, 0, false, false, 0, (0, 0)⟩ ∧
      (State.resetOf c).thermostat = ⟨c.preconfThermostatId, false, 0, 0, false, false, 0, (0, 0)⟩ ∧
      (State.resetOf c).handlers = [] ∧ (State.resetOf c).outbox = [] ∧ (State.resetOf c).inbox = []) ∧
    State.reset = State.resetOf Config.default

/-- Rests on 10_state.md sections 4 and 7. The reset state of every legal configuration, and of the default one, meets
the invariant. The default configuration is the choice of log 7. -/
def Obligations.ResetMeetsTheInvariant : Prop :=
  (∀ c : Config, c.WF → Inv (State.resetOf c)) ∧ Config.default.WF ∧ Inv State.reset

/-- Rests on 10_state.md sections 3 to 5 (R23 derived there); 60_exceptions.md section 2 (R191 derived there). Every
step keeps the invariant: legal configuration, well-formed requests, bounded queue and handler table, unique keys,
Wait only with a head in flight. -/
def Obligations.StepKeepsTheInvariant : Prop :=
  ∀ s s' : State, Inv s → step s = .next s' → Inv s'

/-- Rests on 00_scope.md section 5 (decision D1); 42_tx_state_machine.md section 1. A step takes the first pending
event, decodes it in the present state, runs the operation, and ends the event. The inbox and the step with no event
are log 2, the emptied RXBUF is the choice of log 4. -/
def Obligations.StepRunsTheDecodedOperation : Prop :=
  ∀ s : State, (s.inbox = [] → step s = .next s) ∧
    (∀ f now rest i u, s.inbox = .rx f now :: rest → decodeEvent s.cfg s.txStatus s.q.head? (.rx f now) = .ok i →
      exec i { s with inbox := rest, rxbuf := f } = .next u → step s = .next { u with rxbuf := [], tlg := none }) ∧
    (∀ code o now rest i u, s.inbox = .cmd code o now :: rest →
      decodeEvent s.cfg s.txStatus s.q.head? (.cmd code o now) = .ok i →
      exec i { s with inbox := rest } = .next u → step s = .next { u with rxbuf := [], tlg := none })

/-- Rests on 00_scope.md section 5 (decision D1); 60_exceptions.md section 2 (R191 derived there);
70_reset_and_hazards.md section 3 (decision D37). Every step answers a next state, in every state, unless its event is
a frame longer than MAX_FRAME_LEN, which is refused. -/
def Obligations.StepIsTotalOnLegalFrames : Prop :=
  ∀ s : State,
    ((∀ f now rest, s.inbox = .rx f now :: rest → f.length ≤ s.cfg.maxFrameLen) → ∃ s', step s = .next s') ∧
    (∀ f now rest, s.inbox = .rx f now :: rest → s.cfg.maxFrameLen < f.length → step s = .refused .frameTooLong)

/-- Rests on 42_tx_state_machine.md section 6 (derived there); 10_state.md section 2 (decision D34). Only an own poll
with a non-Raw head sets Wait; only a write-ack on a Write head, a write-nack, a good telegram, CLEAR_QUEUE or RESCAN
sets Idle. -/
def Obligations.StatusMovesOnlyAsTheTableSays : Prop :=
  ∀ s s' : State, step s = .next s' →
    (s.txStatus = .idle → s'.txStatus = .wait →
      ∃ now rest r qs, s.inbox = .rx [s.cfg.ownId.setWidth 8 ||| 0x80] now :: rest ∧ s.q = r :: qs ∧ r.action ≠ .raw) ∧
    (s.txStatus = .wait → s'.txStatus = .idle →
      (∃ now rest r qs, s.inbox = .rx [0x01] now :: rest ∧ s.q = r :: qs ∧ r.action = .write) ∨
      (∃ now rest, s.inbox = .rx [0x04] now :: rest) ∨
      (∃ f now rest, s.inbox = .rx f now :: rest ∧ 5 ≤ f.length ∧ verify s.cfg f = true ∧
        (decodeHeader s.cfg f).isSome = true) ∨
      (∃ code o now rest, s.inbox = .cmd code o now :: rest ∧ (code = 0x06 ∨ code = 0x08)))

/-- Rests on 42_tx_state_machine.md section 6 (R128 derived there); 20_memory.md sections 2 and 7 (decisions D1, D13).
A step touches the head of the queue and adds at the tail; everything between keeps its place, unless the queue is
cleared. -/
def Obligations.QueueIsFifoWithHeadReinsertion : Prop :=
  ∀ s s' : State, step s = .next s' →
    (∃ code o now rest, s.inbox = .cmd code o now :: rest ∧ (code = 0x06 ∨ code = 0x08)) ∨
    ∃ new, s'.q = s.q ++ new ∨ ∃ r qs, s.q = r :: qs ∧ (s'.q = qs ++ new ∨
      ∃ r', r'.dest = r.dest ∧ r'.type = r.type ∧ s'.q = r' :: qs ++ new)

/-- Rests on 45_host_commands.md, general form (decision D33). Every command emits exactly one RESP and nothing else,
moves no timestamp, and a refused one changes no state. -/
def Obligations.CommandsAnswerExactlyOnce : Prop :=
  ∀ (s : State) (code : Byte) (o : CmdOperands) (now : Time) (rest : List Event), s.inbox = .cmd code o now :: rest →
    ∃ u rc vals, step s = .next u ∧ u.outbox = s.outbox ++ [.resp rc vals] ∧ u.bus.lastRx = s.bus.lastRx ∧
      u.bus.lastPoll = s.bus.lastPoll ∧ (code ≠ 0x06 → code ≠ 0x08 → u.txStatus = s.txStatus) ∧
      (rc ≠ .ok → code ≠ 0x06 → code ≠ 0x07 →
        u = { s with inbox := rest, rxbuf := [], tlg := none, outbox := s.outbox ++ [.resp rc vals] })

/-- Formalises R214. A step on an own poll emits exactly one TX and nothing else. -/
def Obligations.EveryOwnPollIsAnsweredByOneFrame : Prop :=
  ∀ (s : State) (now : Time) (rest : List Event), 1 ≤ s.cfg.maxFrameLen →
    s.inbox = .rx [s.cfg.ownId.setWidth 8 ||| 0x80] now :: rest →
      ∃ u f, step s = .next u ∧ u.outbox = s.outbox ++ [.tx f] ∧ u.bus = { s.bus with lastPoll := some now }

/-- Rests on 10_state.md section 5 (decision D11); 60_exceptions.md section 2 (R191 derived there); 10_state.md
section 1 (decision D2). A step never changes the configuration, decreases no counter except on RESET_COUNTERS, and
only adds to the outbox (the model's own, log 3). The clause about outputs is about the model's own outbox, a choice
of log 3. -/
def Obligations.CountersAndOutputsOnlyGrow : Prop :=
  ∀ s s' : State, step s = .next s' → s'.cfg = s.cfg ∧ s.outbox <+: s'.outbox ∧
    (s.bus.CountersLE s'.bus ∨ ∃ o now rest, s.inbox = .cmd 0x09 o now :: rest)

/-- Rests on 44_bus_status.md (R156, decision D12); 10_state.md section 5 (decisions D12, D30). last_poll moves only
on an own poll, last_rx only on a good telegram, the handler table only on REG_HANDLER. -/
def Obligations.OnlyTheirEventsWriteTimestampsAndHandlers : Prop :=
  ∀ s s' : State, step s = .next s' →
    (s'.bus.lastPoll ≠ s.bus.lastPoll → ∃ now rest, s.inbox = .rx [s.cfg.ownId.setWidth 8 ||| 0x80] now :: rest ∧
      s'.bus.lastPoll = some now) ∧
    (s'.bus.lastRx ≠ s.bus.lastRx → ∃ f now rest, s.inbox = .rx f now :: rest ∧ 5 ≤ f.length ∧
      verify s.cfg f = true ∧ s'.bus.lastRx = some now) ∧
    (s'.handlers ≠ s.handlers → ∃ o now rest, s.inbox = .cmd 0x0A o now :: rest)

/-- Rests on 41_device_registry.md, parameters of the family; 45_host_commands.md, RESCAN (decision D29). A slot
changes only on a Version telegram while it is unmatched, or on RESCAN, which resets it. -/
def Obligations.SlotsAreWrittenOnlyByVersionOrRescan : Prop :=
  ∀ (s s' : State) (k : Kind), step s = .next s' → slotOf k s' ≠ slotOf k s →
    (∃ o now rest, s.inbox = .cmd 0x06 o now :: rest ∧ slotOf k s' =
      ⟨match k with | .boiler => s.cfg.preconfBoilerId | .thermostat => s.cfg.preconfThermostatId,
        false, 0, 0, false, false, 0, (0, 0)⟩) ∨
    ((slotOf k s).matched = false ∧ (slotOf k s').matched = true ∧
      ∃ f now rest t, s.inbox = .rx f now :: rest ∧ verify s.cfg f = true ∧ decodeHeader s.cfg f = some t ∧
        t.type = ⟨false, 0x0002⟩)

/-- Rests on 70_reset_and_hazards.md section 3 (decision D37); 30_encoding.md section 4 (decision D10). From a state
that meets the invariant, every frame a step transmits has 1 to MAX_FRAME_LEN bytes. -/
def Obligations.TransmittedFramesFit : Prop :=
  ∀ s s' : State, Inv s → step s = .next s' → ∀ f ∈ txFrames (emitted s s'), 1 ≤ f.length ∧ f.length ≤ s.cfg.maxFrameLen
end

