-- ==== Sys2Proof/Laws/State.lean ====
section
/-! SUPPORT. One lemma per field per update of State, so that no later proof unfolds a record update. -/

namespace Sys2Proof.Machine

@[simp] theorem setStatus_cfg (st : TxStatus) (s : State) : (setStatus st s).cfg = s.cfg := rfl
@[simp] theorem setStatus_txStatus (st : TxStatus) (s : State) : (setStatus st s).txStatus = st := rfl
@[simp] theorem setStatus_q (st : TxStatus) (s : State) : (setStatus st s).q = s.q := rfl
@[simp] theorem setStatus_bus (st : TxStatus) (s : State) : (setStatus st s).bus = s.bus := rfl
@[simp] theorem setStatus_boiler (st : TxStatus) (s : State) : (setStatus st s).boiler = s.boiler := rfl
@[simp] theorem setStatus_thermostat (st : TxStatus) (s : State) : (setStatus st s).thermostat = s.thermostat := rfl
@[simp] theorem setStatus_handlers (st : TxStatus) (s : State) : (setStatus st s).handlers = s.handlers := rfl
@[simp] theorem setStatus_rxbuf (st : TxStatus) (s : State) : (setStatus st s).rxbuf = s.rxbuf := rfl
@[simp] theorem setStatus_txbuf (st : TxStatus) (s : State) : (setStatus st s).txbuf = s.txbuf := rfl
@[simp] theorem setStatus_tlg (st : TxStatus) (s : State) : (setStatus st s).tlg = s.tlg := rfl
@[simp] theorem setStatus_result (st : TxStatus) (s : State) : (setStatus st s).result = s.result := rfl
@[simp] theorem setStatus_inbox (st : TxStatus) (s : State) : (setStatus st s).inbox = s.inbox := rfl
@[simp] theorem setStatus_outbox (st : TxStatus) (s : State) : (setStatus st s).outbox = s.outbox := rfl

@[simp] theorem setQ_cfg (q : List TxRequest) (s : State) : (setQ q s).cfg = s.cfg := rfl
@[simp] theorem setQ_txStatus (q : List TxRequest) (s : State) : (setQ q s).txStatus = s.txStatus := rfl
@[simp] theorem setQ_q (q : List TxRequest) (s : State) : (setQ q s).q = q := rfl
@[simp] theorem setQ_bus (q : List TxRequest) (s : State) : (setQ q s).bus = s.bus := rfl
@[simp] theorem setQ_boiler (q : List TxRequest) (s : State) : (setQ q s).boiler = s.boiler := rfl
@[simp] theorem setQ_thermostat (q : List TxRequest) (s : State) : (setQ q s).thermostat = s.thermostat := rfl
@[simp] theorem setQ_handlers (q : List TxRequest) (s : State) : (setQ q s).handlers = s.handlers := rfl
@[simp] theorem setQ_rxbuf (q : List TxRequest) (s : State) : (setQ q s).rxbuf = s.rxbuf := rfl
@[simp] theorem setQ_txbuf (q : List TxRequest) (s : State) : (setQ q s).txbuf = s.txbuf := rfl
@[simp] theorem setQ_tlg (q : List TxRequest) (s : State) : (setQ q s).tlg = s.tlg := rfl
@[simp] theorem setQ_result (q : List TxRequest) (s : State) : (setQ q s).result = s.result := rfl
@[simp] theorem setQ_inbox (q : List TxRequest) (s : State) : (setQ q s).inbox = s.inbox := rfl
@[simp] theorem setQ_outbox (q : List TxRequest) (s : State) : (setQ q s).outbox = s.outbox := rfl

@[simp] theorem setBus_cfg (b : BusStatus) (s : State) : (setBus b s).cfg = s.cfg := rfl
@[simp] theorem setBus_txStatus (b : BusStatus) (s : State) : (setBus b s).txStatus = s.txStatus := rfl
@[simp] theorem setBus_q (b : BusStatus) (s : State) : (setBus b s).q = s.q := rfl
@[simp] theorem setBus_bus (b : BusStatus) (s : State) : (setBus b s).bus = b := rfl
@[simp] theorem setBus_boiler (b : BusStatus) (s : State) : (setBus b s).boiler = s.boiler := rfl
@[simp] theorem setBus_thermostat (b : BusStatus) (s : State) : (setBus b s).thermostat = s.thermostat := rfl
@[simp] theorem setBus_handlers (b : BusStatus) (s : State) : (setBus b s).handlers = s.handlers := rfl
@[simp] theorem setBus_rxbuf (b : BusStatus) (s : State) : (setBus b s).rxbuf = s.rxbuf := rfl
@[simp] theorem setBus_txbuf (b : BusStatus) (s : State) : (setBus b s).txbuf = s.txbuf := rfl
@[simp] theorem setBus_tlg (b : BusStatus) (s : State) : (setBus b s).tlg = s.tlg := rfl
@[simp] theorem setBus_result (b : BusStatus) (s : State) : (setBus b s).result = s.result := rfl
@[simp] theorem setBus_inbox (b : BusStatus) (s : State) : (setBus b s).inbox = s.inbox := rfl
@[simp] theorem setBus_outbox (b : BusStatus) (s : State) : (setBus b s).outbox = s.outbox := rfl

@[simp] theorem setHandlers_cfg (h : List Handler) (s : State) : (setHandlers h s).cfg = s.cfg := rfl
@[simp] theorem setHandlers_txStatus (h : List Handler) (s : State) : (setHandlers h s).txStatus = s.txStatus := rfl
@[simp] theorem setHandlers_q (h : List Handler) (s : State) : (setHandlers h s).q = s.q := rfl
@[simp] theorem setHandlers_bus (h : List Handler) (s : State) : (setHandlers h s).bus = s.bus := rfl
@[simp] theorem setHandlers_boiler (h : List Handler) (s : State) : (setHandlers h s).boiler = s.boiler := rfl
@[simp] theorem setHandlers_thermostat (h : List Handler) (s : State) : (setHandlers h s).thermostat = s.thermostat := rfl
@[simp] theorem setHandlers_handlers (h : List Handler) (s : State) : (setHandlers h s).handlers = h := rfl
@[simp] theorem setHandlers_rxbuf (h : List Handler) (s : State) : (setHandlers h s).rxbuf = s.rxbuf := rfl
@[simp] theorem setHandlers_txbuf (h : List Handler) (s : State) : (setHandlers h s).txbuf = s.txbuf := rfl
@[simp] theorem setHandlers_tlg (h : List Handler) (s : State) : (setHandlers h s).tlg = s.tlg := rfl
@[simp] theorem setHandlers_result (h : List Handler) (s : State) : (setHandlers h s).result = s.result := rfl
@[simp] theorem setHandlers_inbox (h : List Handler) (s : State) : (setHandlers h s).inbox = s.inbox := rfl
@[simp] theorem setHandlers_outbox (h : List Handler) (s : State) : (setHandlers h s).outbox = s.outbox := rfl

@[simp] theorem setRxbuf_cfg (f : List Byte) (s : State) : (setRxbuf f s).cfg = s.cfg := rfl
@[simp] theorem setRxbuf_txStatus (f : List Byte) (s : State) : (setRxbuf f s).txStatus = s.txStatus := rfl
@[simp] theorem setRxbuf_q (f : List Byte) (s : State) : (setRxbuf f s).q = s.q := rfl
@[simp] theorem setRxbuf_bus (f : List Byte) (s : State) : (setRxbuf f s).bus = s.bus := rfl
@[simp] theorem setRxbuf_boiler (f : List Byte) (s : State) : (setRxbuf f s).boiler = s.boiler := rfl
@[simp] theorem setRxbuf_thermostat (f : List Byte) (s : State) : (setRxbuf f s).thermostat = s.thermostat := rfl
@[simp] theorem setRxbuf_handlers (f : List Byte) (s : State) : (setRxbuf f s).handlers = s.handlers := rfl
@[simp] theorem setRxbuf_rxbuf (f : List Byte) (s : State) : (setRxbuf f s).rxbuf = f := rfl
@[simp] theorem setRxbuf_txbuf (f : List Byte) (s : State) : (setRxbuf f s).txbuf = s.txbuf := rfl
@[simp] theorem setRxbuf_tlg (f : List Byte) (s : State) : (setRxbuf f s).tlg = s.tlg := rfl
@[simp] theorem setRxbuf_result (f : List Byte) (s : State) : (setRxbuf f s).result = s.result := rfl
@[simp] theorem setRxbuf_inbox (f : List Byte) (s : State) : (setRxbuf f s).inbox = s.inbox := rfl
@[simp] theorem setRxbuf_outbox (f : List Byte) (s : State) : (setRxbuf f s).outbox = s.outbox := rfl

@[simp] theorem setTxbuf_cfg (f : List Byte) (s : State) : (setTxbuf f s).cfg = s.cfg := rfl
@[simp] theorem setTxbuf_txStatus (f : List Byte) (s : State) : (setTxbuf f s).txStatus = s.txStatus := rfl
@[simp] theorem setTxbuf_q (f : List Byte) (s : State) : (setTxbuf f s).q = s.q := rfl
@[simp] theorem setTxbuf_bus (f : List Byte) (s : State) : (setTxbuf f s).bus = s.bus := rfl
@[simp] theorem setTxbuf_boiler (f : List Byte) (s : State) : (setTxbuf f s).boiler = s.boiler := rfl
@[simp] theorem setTxbuf_thermostat (f : List Byte) (s : State) : (setTxbuf f s).thermostat = s.thermostat := rfl
@[simp] theorem setTxbuf_handlers (f : List Byte) (s : State) : (setTxbuf f s).handlers = s.handlers := rfl
@[simp] theorem setTxbuf_rxbuf (f : List Byte) (s : State) : (setTxbuf f s).rxbuf = s.rxbuf := rfl
@[simp] theorem setTxbuf_txbuf (f : List Byte) (s : State) : (setTxbuf f s).txbuf = f := rfl
@[simp] theorem setTxbuf_tlg (f : List Byte) (s : State) : (setTxbuf f s).tlg = s.tlg := rfl
@[simp] theorem setTxbuf_result (f : List Byte) (s : State) : (setTxbuf f s).result = s.result := rfl
@[simp] theorem setTxbuf_inbox (f : List Byte) (s : State) : (setTxbuf f s).inbox = s.inbox := rfl
@[simp] theorem setTxbuf_outbox (f : List Byte) (s : State) : (setTxbuf f s).outbox = s.outbox := rfl

@[simp] theorem setTlg_cfg (t : Option Telegram) (s : State) : (setTlg t s).cfg = s.cfg := rfl
@[simp] theorem setTlg_txStatus (t : Option Telegram) (s : State) : (setTlg t s).txStatus = s.txStatus := rfl
@[simp] theorem setTlg_q (t : Option Telegram) (s : State) : (setTlg t s).q = s.q := rfl
@[simp] theorem setTlg_bus (t : Option Telegram) (s : State) : (setTlg t s).bus = s.bus := rfl
@[simp] theorem setTlg_boiler (t : Option Telegram) (s : State) : (setTlg t s).boiler = s.boiler := rfl
@[simp] theorem setTlg_thermostat (t : Option Telegram) (s : State) : (setTlg t s).thermostat = s.thermostat := rfl
@[simp] theorem setTlg_handlers (t : Option Telegram) (s : State) : (setTlg t s).handlers = s.handlers := rfl
@[simp] theorem setTlg_rxbuf (t : Option Telegram) (s : State) : (setTlg t s).rxbuf = s.rxbuf := rfl
@[simp] theorem setTlg_txbuf (t : Option Telegram) (s : State) : (setTlg t s).txbuf = s.txbuf := rfl
@[simp] theorem setTlg_tlg (t : Option Telegram) (s : State) : (setTlg t s).tlg = t := rfl
@[simp] theorem setTlg_result (t : Option Telegram) (s : State) : (setTlg t s).result = s.result := rfl
@[simp] theorem setTlg_inbox (t : Option Telegram) (s : State) : (setTlg t s).inbox = s.inbox := rfl
@[simp] theorem setTlg_outbox (t : Option Telegram) (s : State) : (setTlg t s).outbox = s.outbox := rfl

@[simp] theorem setResult_cfg (r : OpResult) (s : State) : (setResult r s).cfg = s.cfg := rfl
@[simp] theorem setResult_txStatus (r : OpResult) (s : State) : (setResult r s).txStatus = s.txStatus := rfl
@[simp] theorem setResult_q (r : OpResult) (s : State) : (setResult r s).q = s.q := rfl
@[simp] theorem setResult_bus (r : OpResult) (s : State) : (setResult r s).bus = s.bus := rfl
@[simp] theorem setResult_boiler (r : OpResult) (s : State) : (setResult r s).boiler = s.boiler := rfl
@[simp] theorem setResult_thermostat (r : OpResult) (s : State) : (setResult r s).thermostat = s.thermostat := rfl
@[simp] theorem setResult_handlers (r : OpResult) (s : State) : (setResult r s).handlers = s.handlers := rfl
@[simp] theorem setResult_rxbuf (r : OpResult) (s : State) : (setResult r s).rxbuf = s.rxbuf := rfl
@[simp] theorem setResult_txbuf (r : OpResult) (s : State) : (setResult r s).txbuf = s.txbuf := rfl
@[simp] theorem setResult_tlg (r : OpResult) (s : State) : (setResult r s).tlg = s.tlg := rfl
@[simp] theorem setResult_result (r : OpResult) (s : State) : (setResult r s).result = r := rfl
@[simp] theorem setResult_inbox (r : OpResult) (s : State) : (setResult r s).inbox = s.inbox := rfl
@[simp] theorem setResult_outbox (r : OpResult) (s : State) : (setResult r s).outbox = s.outbox := rfl

@[simp] theorem setInbox_cfg (es : List Event) (s : State) : (setInbox es s).cfg = s.cfg := rfl
@[simp] theorem setInbox_txStatus (es : List Event) (s : State) : (setInbox es s).txStatus = s.txStatus := rfl
@[simp] theorem setInbox_q (es : List Event) (s : State) : (setInbox es s).q = s.q := rfl
@[simp] theorem setInbox_bus (es : List Event) (s : State) : (setInbox es s).bus = s.bus := rfl
@[simp] theorem setInbox_boiler (es : List Event) (s : State) : (setInbox es s).boiler = s.boiler := rfl
@[simp] theorem setInbox_thermostat (es : List Event) (s : State) : (setInbox es s).thermostat = s.thermostat := rfl
@[simp] theorem setInbox_handlers (es : List Event) (s : State) : (setInbox es s).handlers = s.handlers := rfl
@[simp] theorem setInbox_rxbuf (es : List Event) (s : State) : (setInbox es s).rxbuf = s.rxbuf := rfl
@[simp] theorem setInbox_txbuf (es : List Event) (s : State) : (setInbox es s).txbuf = s.txbuf := rfl
@[simp] theorem setInbox_tlg (es : List Event) (s : State) : (setInbox es s).tlg = s.tlg := rfl
@[simp] theorem setInbox_result (es : List Event) (s : State) : (setInbox es s).result = s.result := rfl
@[simp] theorem setInbox_inbox (es : List Event) (s : State) : (setInbox es s).inbox = es := rfl
@[simp] theorem setInbox_outbox (es : List Event) (s : State) : (setInbox es s).outbox = s.outbox := rfl

@[simp] theorem emitAll_cfg (os : List Output) (s : State) : (emitAll os s).cfg = s.cfg := rfl
@[simp] theorem emitAll_txStatus (os : List Output) (s : State) : (emitAll os s).txStatus = s.txStatus := rfl
@[simp] theorem emitAll_q (os : List Output) (s : State) : (emitAll os s).q = s.q := rfl
@[simp] theorem emitAll_bus (os : List Output) (s : State) : (emitAll os s).bus = s.bus := rfl
@[simp] theorem emitAll_boiler (os : List Output) (s : State) : (emitAll os s).boiler = s.boiler := rfl
@[simp] theorem emitAll_thermostat (os : List Output) (s : State) : (emitAll os s).thermostat = s.thermostat := rfl
@[simp] theorem emitAll_handlers (os : List Output) (s : State) : (emitAll os s).handlers = s.handlers := rfl
@[simp] theorem emitAll_rxbuf (os : List Output) (s : State) : (emitAll os s).rxbuf = s.rxbuf := rfl
@[simp] theorem emitAll_txbuf (os : List Output) (s : State) : (emitAll os s).txbuf = s.txbuf := rfl
@[simp] theorem emitAll_tlg (os : List Output) (s : State) : (emitAll os s).tlg = s.tlg := rfl
@[simp] theorem emitAll_result (os : List Output) (s : State) : (emitAll os s).result = s.result := rfl
@[simp] theorem emitAll_inbox (os : List Output) (s : State) : (emitAll os s).inbox = s.inbox := rfl
@[simp] theorem emitAll_outbox (os : List Output) (s : State) : (emitAll os s).outbox = s.outbox ++ os := rfl

@[simp] theorem emit_cfg (o : Output) (s : State) : (emit o s).cfg = s.cfg := rfl
@[simp] theorem emit_txStatus (o : Output) (s : State) : (emit o s).txStatus = s.txStatus := rfl
@[simp] theorem emit_q (o : Output) (s : State) : (emit o s).q = s.q := rfl
@[simp] theorem emit_bus (o : Output) (s : State) : (emit o s).bus = s.bus := rfl
@[simp] theorem emit_boiler (o : Output) (s : State) : (emit o s).boiler = s.boiler := rfl
@[simp] theorem emit_thermostat (o : Output) (s : State) : (emit o s).thermostat = s.thermostat := rfl
@[simp] theorem emit_handlers (o : Output) (s : State) : (emit o s).handlers = s.handlers := rfl
@[simp] theorem emit_rxbuf (o : Output) (s : State) : (emit o s).rxbuf = s.rxbuf := rfl
@[simp] theorem emit_txbuf (o : Output) (s : State) : (emit o s).txbuf = s.txbuf := rfl
@[simp] theorem emit_tlg (o : Output) (s : State) : (emit o s).tlg = s.tlg := rfl
@[simp] theorem emit_result (o : Output) (s : State) : (emit o s).result = s.result := rfl
@[simp] theorem emit_inbox (o : Output) (s : State) : (emit o s).inbox = s.inbox := rfl
@[simp] theorem emit_outbox (o : Output) (s : State) : (emit o s).outbox = s.outbox ++ [o] := rfl

@[simp] theorem setSlot_cfg (k : Kind) (sl : Slot) (s : State) : (setSlot k sl s).cfg = s.cfg := by cases k <;> rfl
@[simp] theorem setSlot_txStatus (k : Kind) (sl : Slot) (s : State) : (setSlot k sl s).txStatus = s.txStatus := by cases k <;> rfl
@[simp] theorem setSlot_q (k : Kind) (sl : Slot) (s : State) : (setSlot k sl s).q = s.q := by cases k <;> rfl
@[simp] theorem setSlot_bus (k : Kind) (sl : Slot) (s : State) : (setSlot k sl s).bus = s.bus := by cases k <;> rfl
@[simp] theorem setSlot_handlers (k : Kind) (sl : Slot) (s : State) : (setSlot k sl s).handlers = s.handlers := by cases k <;> rfl
@[simp] theorem setSlot_rxbuf (k : Kind) (sl : Slot) (s : State) : (setSlot k sl s).rxbuf = s.rxbuf := by cases k <;> rfl
@[simp] theorem setSlot_txbuf (k : Kind) (sl : Slot) (s : State) : (setSlot k sl s).txbuf = s.txbuf := by cases k <;> rfl
@[simp] theorem setSlot_tlg (k : Kind) (sl : Slot) (s : State) : (setSlot k sl s).tlg = s.tlg := by cases k <;> rfl
@[simp] theorem setSlot_result (k : Kind) (sl : Slot) (s : State) : (setSlot k sl s).result = s.result := by cases k <;> rfl
@[simp] theorem setSlot_inbox (k : Kind) (sl : Slot) (s : State) : (setSlot k sl s).inbox = s.inbox := by cases k <;> rfl
@[simp] theorem setSlot_outbox (k : Kind) (sl : Slot) (s : State) : (setSlot k sl s).outbox = s.outbox := by cases k <;> rfl
@[simp] theorem setSlot_boiler (sl : Slot) (s : State) : (setSlot .boiler sl s).boiler = sl := rfl
@[simp] theorem setSlot_boiler_thermostat (sl : Slot) (s : State) : (setSlot .boiler sl s).thermostat = s.thermostat := rfl
@[simp] theorem setSlot_thermostat (sl : Slot) (s : State) : (setSlot .thermostat sl s).thermostat = sl := rfl
@[simp] theorem setSlot_thermostat_boiler (sl : Slot) (s : State) : (setSlot .thermostat sl s).boiler = s.boiler := rfl
@[simp] theorem slotOf_setSlot (k : Kind) (sl : Slot) (s : State) : slotOf k (setSlot k sl s) = sl := by cases k <;> rfl

end Sys2Proof.Machine
end

