-- ==== Sys2Proof/Laws/Codec.lean ====
section
/-! SUPPORT. The frame codec and the decoders: the checksum as a fold, VERIFY of an assembled frame, the header bytes, and what
CLASSIFY answers on frames of telegram length. -/

namespace Sys2Proof.Machine

/-- Where a value stands in the table of 93_implementation_defined.md G1: an even value is twice its index, an odd one folds
the top bit into 0x19. -/
def crcIndex (v : Byte) : Nat := if v.toNat % 2 = 0 then v.toNat / 2 else (v ^^^ 0x19).toNat / 2 + 128

theorem map_crcIndex_defaultCrcTable : Config.defaultCrcTable.map crcIndex = List.range 256 := by decide +kernel

theorem length_defaultCrcTable : Config.defaultCrcTable.length = 256 := by
  simpa using congrArg List.length map_crcIndex_defaultCrcTable

/-- The default table is a permutation (40_frame_codec.md R84). -/
theorem nodup_defaultCrcTable : Config.defaultCrcTable.Nodup :=
  .of_map crcIndex (map_crcIndex_defaultCrcTable ▸ List.nodup_range)

theorem checksum_nil (c : Config) : checksum c [] = crcInit := rfl

/-- The running value over one more byte (40_frame_codec.md R81). -/
theorem checksum_append (c : Config) (bs : List Byte) (b : Byte) :
    checksum c (bs ++ [b]) = crcStep c (checksum c bs) b := by
  unfold checksum; rw [List.foldl_append]; rfl

/-- VERIFY on a frame given as its bytes and its last byte. -/
theorem verify_append (c : Config) (h : List Byte) (b : Byte) : verify c (h ++ [b]) = decide (b = checksum c h) := by
  unfold verify
  rw [List.getLast?_append, List.dropLast_concat]
  rfl

/-- Every assembled frame verifies (40_frame_codec.md R92). -/
@[simp] theorem verify_withChecksum (c : Config) (h : List Byte) : verify c (withChecksum c h) = true := by
  unfold withChecksum; rw [verify_append]; exact decide_eq_true rfl

@[simp] theorem length_withChecksum (c : Config) (h : List Byte) : (withChecksum c h).length = h.length + 1 := by
  simp [withChecksum]

@[simp] theorem dropLast_withChecksum (c : Config) (h : List Byte) : (withChecksum c h).dropLast = h := by
  simp [withChecksum]

/-- A frame that verifies is its bytes but the last, and their checksum. -/
theorem eq_withChecksum (c : Config) (f : Frame) (h : verify c f = true) : f = withChecksum c f.dropLast := by
  obtain rfl | ⟨bs, x, rfl⟩ := List.eq_nil_or_concat f
  · simp [verify] at h
  · simp only [List.concat_eq_append] at h ⊢
    rw [verify_append] at h
    rw [List.dropLast_concat, of_decide_eq_true h]
    rfl

/-- The bits of a device id as a byte: bit 7 is clear. -/
theorem devOf_setWidth (d : DevId) : devOf (d.setWidth 8) = d := by
  unfold devOf; simp

/-- Bit 7 set does not change the device id. -/
theorem devOf_marked (d : DevId) : devOf (d.setWidth 8 ||| 0x80) = d := by
  revert d; decide

theorem readMark_marked (d : DevId) : readMark (d.setWidth 8 ||| 0x80) = true := by
  revert d; decide

theorem readMark_clear (d : DevId) : readMark (d.setWidth 8) = false := by
  revert d; decide

theorem devOf_readMark (b : Byte) : (devOf b).setWidth 8 ||| (if readMark b then 0x80 else 0) = b := by
  revert b; decide

/-- The device id of a header byte is its low seven bits (30_encoding.md R62). -/
theorem devOf_eq (b : Byte) : devOf b = (b &&& 0x7F).setWidth 7 := by
  revert b; decide

theorem readMark_eq (b : Byte) : readMark b = decide (b &&& 0x80 ≠ 0) := by
  revert b; decide

/-- No control byte polls this engine. -/
theorem pollByte_ge (c : Config) : 0x80 ≤ (pollByte c).toNat := by
  unfold pollByte ownByte
  generalize c.ownId = d
  revert d; decide

theorem pollByte_ne_ownByte (c : Config) : pollByte c ≠ ownByte c := by
  unfold pollByte ownByte
  generalize c.ownId = d
  revert d; decide

/-- A one-byte type is its type byte (30_encoding.md R68). -/
theorem ofByte_typeByte (t : TypeId) (he : t.ext = false) (hv : t.val.toNat ≤ 0xEF) : TypeId.ofByte (typeByte t) = t := by
  obtain ⟨e, v⟩ := t
  simp only at he hv
  subst he
  unfold TypeId.ofByte typeByte
  congr 1
  apply BitVec.eq_of_toNat_eq
  simp only [BitVec.toNat_setWidth]
  omega

theorem typeByte_ofByte (b : Byte) : typeByte (TypeId.ofByte b) = b := by
  unfold TypeId.ofByte typeByte
  apply BitVec.eq_of_toNat_eq
  simp only [BitVec.toNat_setWidth]
  have := b.isLt
  omega

theorem typeByte_lt (t : TypeId) (h : transmittable t = true) : (typeByte t).toNat < extMark := by
  have h2 : t.val.toNat ≤ 0xEF := by simp [transmittable] at h; exact h.2
  unfold typeByte extMark
  simp only [BitVec.toNat_setWidth]
  omega

theorem transmittable_iff (t : TypeId) : transmittable t = true ↔ t.ext = false ∧ t.val.toNat ≤ 0xEF := by
  simp [transmittable]

/-- The standard form decodes field by field (40_frame_codec.md R86). -/
theorem decodeHeader_standard (c : Config) (b0 b1 b2 b3 x : Byte) (data : List Byte) (h : b2.toNat < extMark) :
    decodeHeader c (b0 :: b1 :: b2 :: b3 :: (data ++ [x])) =
      some ⟨devOf b0, devOf b1, readMark b1, TypeId.ofByte b2, b3, data, true⟩ := by
  have he : isExtended (b0 :: b1 :: b2 :: b3 :: (data ++ [x])) = false := by
    unfold isExtended; exact decide_eq_false (by omega)
  unfold decodeHeader
  rw [he]
  simp [decodeHeaderS]

/-- On a frame of telegram length CLASSIFY looks at VERIFY, the header and the status. -/
theorem classify_of_length (c : Config) (st : TxStatus) (f : Frame) (h : minTelegramLen ≤ f.length) :
    classify c st f = if verify c f = false then .rxBadcrc else if decodeHeader c f = none then .rxNoise else
      match st with
      | .idle => .rxTlgIdle
      | .wait => .rxTlgWait := by
  match f with
  | [] => simp [minTelegramLen] at h
  | [_] => simp [minTelegramLen] at h
  | a :: b :: r =>
    exact if_neg (Nat.not_lt.2 h)

/-- The receive map on one byte (30_encoding.md R58 rows 2 to 5). -/
theorem decodeFrame_single (c : Config) (st : TxStatus) (head : Option TxRequest) (b : Byte) (now : Time) :
    decodeFrame c st head [b] now =
      if b = pollByte c then .rxPoll now
      else if b = ackByte ∧ st = .wait then .rxWack now
      else if b = nackByte ∧ st = .wait then .rxWnack now
      else .rxOther1 b now := by
  have hc : classify c st [b] = if b = pollByte c then .rxPoll else if b = ackByte ∧ st = .wait then .rxWack
      else if b = nackByte ∧ st = .wait then .rxWnack else .rxOther1 := rfl
  unfold decodeFrame
  by_cases h1 : b = pollByte c
  · rw [hc, if_pos h1, if_pos h1]
  · by_cases h2 : b = ackByte ∧ st = .wait
    · rw [hc, if_neg h1, if_neg h1, if_pos h2, if_pos h2]
    · by_cases h3 : b = nackByte ∧ st = .wait
      · rw [hc, if_neg h1, if_neg h1, if_neg h2, if_neg h2, if_pos h3, if_pos h3]
      · rw [hc, if_neg h1, if_neg h1, if_neg h2, if_neg h2, if_neg h3, if_neg h3]
        rfl

/-- Row 6: two to four bytes. -/
theorem decodeFrame_short (c : Config) (st : TxStatus) (head : Option TxRequest) (f : Frame) (now : Time)
    (h2 : 2 ≤ f.length) (h5 : f.length < minTelegramLen) : decodeFrame c st head f now = .rxNoise f now := by
  match f with
  | [] => simp at h2
  | [_] => simp at h2
  | a :: b :: r =>
    have hc : classify c st (a :: b :: r) = .rxNoise := by unfold classify; rw [if_pos h5]
    unfold decodeFrame; rw [hc]

/-- Row 7: a bad checksum. -/
theorem decodeFrame_badcrc (c : Config) (st : TxStatus) (head : Option TxRequest) (f : Frame) (now : Time)
    (h : minTelegramLen ≤ f.length) (hv : verify c f = false) : decodeFrame c st head f now = .rxBadcrc f now := by
  unfold decodeFrame
  rw [classify_of_length c st f h, hv]
  rfl

/-- Row 8: a good checksum and no header. -/
theorem decodeFrame_noHeader (c : Config) (st : TxStatus) (head : Option TxRequest) (f : Frame) (now : Time)
    (h : minTelegramLen ≤ f.length) (hv : verify c f = true) (hd : decodeHeader c f = none) :
    decodeFrame c st head f now = .rxNoise f now := by
  unfold decodeFrame
  rw [classify_of_length c st f h, hv, hd]
  rfl

/-- What a frame of telegram length that verifies and has a header decodes to. -/
theorem decodeFrame_of_header (c : Config) (st : TxStatus) (head : Option TxRequest) (f : Frame) (now : Time) (t : Telegram)
    (h : minTelegramLen ≤ f.length) (hv : verify c f = true) (ht : decodeHeader c f = some t) :
    decodeFrame c st head f now = telegramCase c st head t now := by
  unfold decodeFrame
  rw [classify_of_length c st f h, hv, ht]
  cases st <;> simp

/-- Every frame falls under one row of the receive map. -/
theorem frame_cases (c : Config) (f : Frame) :
    f = [] ∨ (∃ b, f = [b]) ∨ (2 ≤ f.length ∧ f.length < minTelegramLen) ∨
      (minTelegramLen ≤ f.length ∧ verify c f = false) ∨
      (minTelegramLen ≤ f.length ∧ verify c f = true ∧ decodeHeader c f = none) ∨
      (minTelegramLen ≤ f.length ∧ verify c f = true ∧ ∃ t, decodeHeader c f = some t) := by
  match f with
  | [] => exact .inl rfl
  | [b] => exact .inr (.inl ⟨b, rfl⟩)
  | a :: b :: r =>
    right; right
    by_cases h5 : minTelegramLen ≤ (a :: b :: r).length
    · right
      cases hv : verify c (a :: b :: r)
      · exact .inl ⟨h5, rfl⟩
      · cases hd : decodeHeader c (a :: b :: r) with
        | none => exact .inr (.inl ⟨h5, rfl, rfl⟩)
        | some t => exact .inr (.inr ⟨h5, rfl, t, rfl⟩)
    · exact .inl ⟨by simp, by omega⟩

/-- An RX event within the length bound decodes to its frame's operation. -/
theorem decodeEvent_rx (c : Config) (st : TxStatus) (head : Option TxRequest) (f : Frame) (now : Time)
    (h : f.length ≤ c.maxFrameLen) : decodeEvent c st head (.rx f now) = .ok (decodeFrame c st head f now) :=
  if_neg (Nat.not_lt.2 h)

theorem decodeEvent_rx_long (c : Config) (st : TxStatus) (head : Option TxRequest) (f : Frame) (now : Time)
    (h : c.maxFrameLen < f.length) : decodeEvent c st head (.rx f now) = .error .frameTooLong :=
  if_pos h

/-- An assembled frame of two bytes or more is read by its header form, else as a raw one. -/
theorem decodeTx_withChecksum (c : Config) (h : List Byte) (h1 : 1 ≤ h.length) (hl : h.length + 1 ≤ c.maxFrameLen) :
    decodeTx c (withChecksum c h) = match headerForm c h with
      | some i => .ok i
      | none => .ok (.txRaw h) := by
  have hv := verify_withChecksum c h
  have hd := dropLast_withChecksum c h
  have hn := length_withChecksum c h
  generalize withChecksum c h = f at *
  unfold decodeTx
  rw [if_neg (by omega)]
  match f with
  | [] => simp at hn
  | [_] => simp at hn; subst hn; simp at h1
  | a :: b :: r =>
    subst hd
    exact if_pos hv

/-- What `placeExt` answers lies where the constraints of 30_encoding.md R66 put it. -/
theorem placeExt_some {f : Frame} {p d : Nat} {off : Offset} {x : ExtHeader} (h : placeExt f p d off = some x) :
    4 ≤ p ∧ p + 3 ≤ f.length ∧ p + 2 ≤ d ∧ d + 1 ≤ f.length ∧
      ∃ hi lo, f[p]? = some hi ∧ f[p + 1]? = some lo ∧ x = ⟨hi ++ lo, off, f.dropLast.drop d⟩ := by
  unfold placeExt at h
  split at h
  · rename_i hc
    split at h
    · rename_i hi lo h1 h2
      injection h with h
      exact ⟨hc.1, hc.2.1, hc.2.2.1, hc.2.2.2, hi, lo, h1, h2, h.symm⟩
    · cases h
  · cases h

/-- Every extended header comes from `placeExt`. -/
theorem extLayout_some {c : Config} {f : Frame} {x : ExtHeader} (h : extLayout c f = some x) :
    ∃ p d off, placeExt f p d off = some x := by
  unfold extLayout at h
  split at h
  · split at h
    · exact ⟨_, _, _, h⟩
    · cases h
  · split at h
    · exact ⟨_, _, _, h⟩
    · cases h

/-- A telegram the decoder read is well-formed. -/
theorem wellFormed_of_decodeHeader (c : Config) (f : Frame) (t : Telegram) (h : minTelegramLen ≤ f.length)
    (hl : f.length ≤ c.maxFrameLen) (ht : decodeHeader c f = some t) : t.wellFormed c = true := by
  unfold decodeHeader at ht
  split at ht
  · rename_i he
    unfold decodeHeaderX at ht
    match f with
    | [] => simp [minTelegramLen] at h
    | [_] => simp [minTelegramLen] at h
    | b0 :: b1 :: r =>
      simp only [Option.map_eq_some_iff] at ht
      obtain ⟨x, hx, rfl⟩ := ht
      obtain ⟨p, d, off, hp⟩ := extLayout_some hx
      obtain ⟨h1, h2, h3, h4, hi, lo, -, -, rfl⟩ := placeExt_some hp
      simp only [Telegram.wellFormed, Bool.and_eq_true, decide_eq_true_eq, Bool.or_eq_true, List.length_drop,
        List.length_dropLast, true_or, and_true, true_and]
      omega
  · rename_i he
    unfold decodeHeaderS at ht
    split at ht
    · rename_i b0 b1 b2 b3 rest
      injection ht with ht
      subst ht
      have h2 : b2.toNat < extMark := by
        simp only [isExtended, decide_eq_true_eq, not_le] at he
        exact he
      simp only [List.length_cons] at h hl
      simp only [minTelegramLen] at h
      simp only [extMark] at h2
      simp only [Telegram.wellFormed, TypeId.ofByte, Bool.and_eq_true, decide_eq_true_eq, Bool.or_eq_true,
        List.length_dropLast, BitVec.toNat_setWidth, true_and]
      have := b2.isLt
      refine ⟨Or.inr ?_, ?_⟩
      · omega
      · omega
    · cases ht

end Sys2Proof.Machine
end

