-- ==== Sys2Proof/Laws/Ops.lean ====
section
/-! SUPPORT. The shared operations of Machine/Ops.lean: what each changes and leaves alone, the queue primitives in closed
form, the storage spaces, and the canonical lemmas about counters and ages. -/

namespace Sys2Proof.Machine

@[simp] theorem popHead_cfg (s : State) : (popHead s).cfg = s.cfg := rfl
@[simp] theorem popHead_txStatus (s : State) : (popHead s).txStatus = s.txStatus := rfl
@[simp] theorem popHead_bus (s : State) : (popHead s).bus = s.bus := rfl
@[simp] theorem popHead_boiler (s : State) : (popHead s).boiler = s.boiler := rfl
@[simp] theorem popHead_thermostat (s : State) : (popHead s).thermostat = s.thermostat := rfl
@[simp] theorem popHead_handlers (s : State) : (popHead s).handlers = s.handlers := rfl
@[simp] theorem popHead_rxbuf (s : State) : (popHead s).rxbuf = s.rxbuf := rfl
@[simp] theorem popHead_txbuf (s : State) : (popHead s).txbuf = s.txbuf := rfl
@[simp] theorem popHead_tlg (s : State) : (popHead s).tlg = s.tlg := rfl
@[simp] theorem popHead_result (s : State) : (popHead s).result = s.result := rfl
@[simp] theorem popHead_inbox (s : State) : (popHead s).inbox = s.inbox := rfl
@[simp] theorem popHead_outbox (s : State) : (popHead s).outbox = s.outbox := rfl

@[simp] theorem popHead_q (s : State) : (popHead s).q = s.q.tail := rfl

@[simp] theorem updateHead_cfg (g : TxRequest → TxRequest) (s : State) : (updateHead g s).cfg = s.cfg := by unfold updateHead; split <;> rfl
@[simp] theorem updateHead_txStatus (g : TxRequest → TxRequest) (s : State) : (updateHead g s).txStatus = s.txStatus := by unfold updateHead; split <;> rfl
@[simp] theorem updateHead_bus (g : TxRequest → TxRequest) (s : State) : (updateHead g s).bus = s.bus := by unfold updateHead; split <;> rfl
@[simp] theorem updateHead_boiler (g : TxRequest → TxRequest) (s : State) : (updateHead g s).boiler = s.boiler := by unfold updateHead; split <;> rfl
@[simp] theorem updateHead_thermostat (g : TxRequest → TxRequest) (s : State) : (updateHead g s).thermostat = s.thermostat := by unfold updateHead; split <;> rfl
@[simp] theorem updateHead_handlers (g : TxRequest → TxRequest) (s : State) : (updateHead g s).handlers = s.handlers := by unfold updateHead; split <;> rfl
@[simp] theorem updateHead_rxbuf (g : TxRequest → TxRequest) (s : State) : (updateHead g s).rxbuf = s.rxbuf := by unfold updateHead; split <;> rfl
@[simp] theorem updateHead_txbuf (g : TxRequest → TxRequest) (s : State) : (updateHead g s).txbuf = s.txbuf := by unfold updateHead; split <;> rfl
@[simp] theorem updateHead_tlg (g : TxRequest → TxRequest) (s : State) : (updateHead g s).tlg = s.tlg := by unfold updateHead; split <;> rfl
@[simp] theorem updateHead_result (g : TxRequest → TxRequest) (s : State) : (updateHead g s).result = s.result := by unfold updateHead; split <;> rfl
@[simp] theorem updateHead_inbox (g : TxRequest → TxRequest) (s : State) : (updateHead g s).inbox = s.inbox := by unfold updateHead; split <;> rfl
@[simp] theorem updateHead_outbox (g : TxRequest → TxRequest) (s : State) : (updateHead g s).outbox = s.outbox := by unfold updateHead; split <;> rfl

@[simp] theorem updateHead_q (g : TxRequest → TxRequest) (s : State) : (updateHead g s).q = s.q.modifyHead g := by
  unfold updateHead; split <;> simp_all

@[simp] theorem pushTail_cfg (r : TxRequest) (s : State) : ((pushTail r s).2).cfg = s.cfg := by unfold pushTail; split <;> rfl
@[simp] theorem pushTail_txStatus (r : TxRequest) (s : State) : ((pushTail r s).2).txStatus = s.txStatus := by unfold pushTail; split <;> rfl
@[simp] theorem pushTail_bus (r : TxRequest) (s : State) : ((pushTail r s).2).bus = s.bus := by unfold pushTail; split <;> rfl
@[simp] theorem pushTail_boiler (r : TxRequest) (s : State) : ((pushTail r s).2).boiler = s.boiler := by unfold pushTail; split <;> rfl
@[simp] theorem pushTail_thermostat (r : TxRequest) (s : State) : ((pushTail r s).2).thermostat = s.thermostat := by unfold pushTail; split <;> rfl
@[simp] theorem pushTail_handlers (r : TxRequest) (s : State) : ((pushTail r s).2).handlers = s.handlers := by unfold pushTail; split <;> rfl
@[simp] theorem pushTail_rxbuf (r : TxRequest) (s : State) : ((pushTail r s).2).rxbuf = s.rxbuf := by unfold pushTail; split <;> rfl
@[simp] theorem pushTail_txbuf (r : TxRequest) (s : State) : ((pushTail r s).2).txbuf = s.txbuf := by unfold pushTail; split <;> rfl
@[simp] theorem pushTail_tlg (r : TxRequest) (s : State) : ((pushTail r s).2).tlg = s.tlg := by unfold pushTail; split <;> rfl
@[simp] theorem pushTail_result (r : TxRequest) (s : State) : ((pushTail r s).2).result = s.result := by unfold pushTail; split <;> rfl
@[simp] theorem pushTail_inbox (r : TxRequest) (s : State) : ((pushTail r s).2).inbox = s.inbox := by unfold pushTail; split <;> rfl
@[simp] theorem pushTail_outbox (r : TxRequest) (s : State) : ((pushTail r s).2).outbox = s.outbox := by unfold pushTail; split <;> rfl

theorem pushTail_q (r : TxRequest) (s : State) :
    (pushTail r s).2.q = if s.q.length < s.cfg.queueDepth then s.q ++ [r] else s.q := by
  unfold pushTail hasRoom; split <;> simp_all

theorem pushTail_of_room (r : TxRequest) (s : State) (h : s.q.length < s.cfg.queueDepth) :
    pushTail r s = (false, setQ (s.q ++ [r]) s) := if_pos (decide_eq_true h)

theorem pushTail_of_full (r : TxRequest) (s : State) (h : s.cfg.queueDepth ≤ s.q.length) : pushTail r s = (true, s) :=
  if_neg (by simpa [hasRoom] using h)

theorem pushTail_full (r : TxRequest) (s : State) : (pushTail r s).1 = !hasRoom s := by
  unfold pushTail; split <;> simp_all

@[simp] theorem pushAll_cfg (rs : List TxRequest) (s : State) : ((pushAll rs s).2).cfg = s.cfg := by
  induction rs generalizing s with
  | nil => rfl
  | cons r rest ih => simp [pushAll, ih]
@[simp] theorem pushAll_txStatus (rs : List TxRequest) (s : State) : ((pushAll rs s).2).txStatus = s.txStatus := by
  induction rs generalizing s with
  | nil => rfl
  | cons r rest ih => simp [pushAll, ih]
@[simp] theorem pushAll_bus (rs : List TxRequest) (s : State) : ((pushAll rs s).2).bus = s.bus := by
  induction rs generalizing s with
  | nil => rfl
  | cons r rest ih => simp [pushAll, ih]
@[simp] theorem pushAll_boiler (rs : List TxRequest) (s : State) : ((pushAll rs s).2).boiler = s.boiler := by
  induction rs generalizing s with
  | nil => rfl
  | cons r rest ih => simp [pushAll, ih]
@[simp] theorem pushAll_thermostat (rs : List TxRequest) (s : State) : ((pushAll rs s).2).thermostat = s.thermostat := by
  induction rs generalizing s with
  | nil => rfl
  | cons r rest ih => simp [pushAll, ih]
@[simp] theorem pushAll_handlers (rs : List TxRequest) (s : State) : ((pushAll rs s).2).handlers = s.handlers := by
  induction rs generalizing s with
  | nil => rfl
  | cons r rest ih => simp [pushAll, ih]
@[simp] theorem pushAll_rxbuf (rs : List TxRequest) (s : State) : ((pushAll rs s).2).rxbuf = s.rxbuf := by
  induction rs generalizing s with
  | nil => rfl
  | cons r rest ih => simp [pushAll, ih]
@[simp] theorem pushAll_txbuf (rs : List TxRequest) (s : State) : ((pushAll rs s).2).txbuf = s.txbuf := by
  induction rs generalizing s with
  | nil => rfl
  | cons r rest ih => simp [pushAll, ih]
@[simp] theorem pushAll_tlg (rs : List TxRequest) (s : State) : ((pushAll rs s).2).tlg = s.tlg := by
  induction rs generalizing s with
  | nil => rfl
  | cons r rest ih => simp [pushAll, ih]
@[simp] theorem pushAll_result (rs : List TxRequest) (s : State) : ((pushAll rs s).2).result = s.result := by
  induction rs generalizing s with
  | nil => rfl
  | cons r rest ih => simp [pushAll, ih]
@[simp] theorem pushAll_inbox (rs : List TxRequest) (s : State) : ((pushAll rs s).2).inbox = s.inbox := by
  induction rs generalizing s with
  | nil => rfl
  | cons r rest ih => simp [pushAll, ih]
@[simp] theorem pushAll_outbox (rs : List TxRequest) (s : State) : ((pushAll rs s).2).outbox = s.outbox := by
  induction rs generalizing s with
  | nil => rfl
  | cons r rest ih => simp [pushAll, ih]

/-- Several PushTail in closed form: the queue takes what fits, in order, and nothing else changes (20_memory.md R45). -/
theorem pushAll_eq (rs : List TxRequest) (s : State) :
    (pushAll rs s).2 = setQ (s.q ++ rs.take (s.cfg.queueDepth - s.q.length)) s := by
  induction rs generalizing s with
  | nil => simp [pushAll, setQ]
  | cons r rest ih =>
    show (pushAll rest (pushTail r s).2).2 = _
    rw [ih]
    unfold pushTail hasRoom
    by_cases h : s.q.length < s.cfg.queueDepth
    · obtain ⟨k, hk⟩ : ∃ k, s.cfg.queueDepth - s.q.length = k + 1 := ⟨s.cfg.queueDepth - s.q.length - 1, by omega⟩
      have hk' : s.cfg.queueDepth - (s.q.length + 1) = k := by omega
      simp [h, setQ, hk, hk']
    · have hk : s.cfg.queueDepth - s.q.length = 0 := by omega
      simp [h, setQ, hk]

/-- Everything `pushAll` does: the requests that fit are appended in order, the rest dropped. -/
theorem pushAll_q (rs : List TxRequest) (s : State) :
    (pushAll rs s).2.q = s.q ++ rs.take (s.cfg.queueDepth - s.q.length) := by
  induction rs generalizing s with
  | nil => simp [pushAll]
  | cons r rest ih =>
    rw [pushAll, ih, pushTail_q, pushTail_cfg]
    split
    · rename_i h
      obtain ⟨n, hn⟩ : ∃ n, s.cfg.queueDepth - s.q.length = n + 1 := ⟨_, (Nat.succ_pred_eq_of_pos (by omega)).symm⟩
      rw [List.length_append, List.length_singleton, Nat.sub_add_eq, hn]
      simp
    · rename_i h
      have h0 : s.cfg.queueDepth - s.q.length = 0 := by omega
      simp [h0]

theorem pushAll_full (rs : List TxRequest) (s : State) :
    (pushAll rs s).1 = decide (s.cfg.queueDepth - s.q.length < rs.length) := by
  induction rs generalizing s with
  | nil => simp [pushAll]
  | cons r rest ih =>
    simp only [pushAll, ih, pushTail_full, pushTail_q, pushTail_cfg, hasRoom, List.length_cons]
    by_cases h : s.q.length < s.cfg.queueDepth
    · simp only [h, decide_true, Bool.not_true, Bool.false_or, if_true, List.length_append, List.length_cons,
        List.length_nil, decide_eq_decide]
      omega
    · simp only [h, decide_false, Bool.not_false, Bool.true_or]
      exact (decide_eq_true (by omega)).symm

@[simp] theorem transmit_cfg (f : Frame) (s : State) : (transmit f s).cfg = s.cfg := rfl
@[simp] theorem transmit_txStatus (f : Frame) (s : State) : (transmit f s).txStatus = s.txStatus := rfl
@[simp] theorem transmit_q (f : Frame) (s : State) : (transmit f s).q = s.q := rfl
@[simp] theorem transmit_bus (f : Frame) (s : State) : (transmit f s).bus = s.bus := rfl
@[simp] theorem transmit_boiler (f : Frame) (s : State) : (transmit f s).boiler = s.boiler := rfl
@[simp] theorem transmit_thermostat (f : Frame) (s : State) : (transmit f s).thermostat = s.thermostat := rfl
@[simp] theorem transmit_handlers (f : Frame) (s : State) : (transmit f s).handlers = s.handlers := rfl
@[simp] theorem transmit_rxbuf (f : Frame) (s : State) : (transmit f s).rxbuf = s.rxbuf := rfl
@[simp] theorem transmit_tlg (f : Frame) (s : State) : (transmit f s).tlg = s.tlg := rfl
@[simp] theorem transmit_result (f : Frame) (s : State) : (transmit f s).result = s.result := rfl
@[simp] theorem transmit_inbox (f : Frame) (s : State) : (transmit f s).inbox = s.inbox := rfl

@[simp] theorem transmit_txbuf (f : Frame) (s : State) : (transmit f s).txbuf = [] := rfl
@[simp] theorem transmit_outbox (f : Frame) (s : State) : (transmit f s).outbox = s.outbox ++ [.tx f] := rfl

@[simp] theorem pollAck_cfg (s : State) : (pollAck s).cfg = s.cfg := rfl
@[simp] theorem pollAck_txStatus (s : State) : (pollAck s).txStatus = s.txStatus := rfl
@[simp] theorem pollAck_q (s : State) : (pollAck s).q = s.q := rfl
@[simp] theorem pollAck_bus (s : State) : (pollAck s).bus = s.bus := rfl
@[simp] theorem pollAck_boiler (s : State) : (pollAck s).boiler = s.boiler := rfl
@[simp] theorem pollAck_thermostat (s : State) : (pollAck s).thermostat = s.thermostat := rfl
@[simp] theorem pollAck_handlers (s : State) : (pollAck s).handlers = s.handlers := rfl
@[simp] theorem pollAck_rxbuf (s : State) : (pollAck s).rxbuf = s.rxbuf := rfl
@[simp] theorem pollAck_tlg (s : State) : (pollAck s).tlg = s.tlg := rfl
@[simp] theorem pollAck_result (s : State) : (pollAck s).result = s.result := rfl
@[simp] theorem pollAck_inbox (s : State) : (pollAck s).inbox = s.inbox := rfl

/-- The poll-acknowledgement as one update. -/
theorem pollAck_eq (s : State) :
    pollAck s = { s with txbuf := [], outbox := s.outbox ++ [.tx [s.cfg.ownId.setWidth 8]] } := rfl

@[simp] theorem pollAck_txbuf (s : State) : (pollAck s).txbuf = [] := rfl
@[simp] theorem pollAck_outbox (s : State) : (pollAck s).outbox = s.outbox ++ [.tx (encodeAck s.cfg)] := rfl

@[simp] theorem respond_cfg (c : RespCode) (v : RespValues) (s : State) : (respond c v s).cfg = s.cfg := rfl
@[simp] theorem respond_txStatus (c : RespCode) (v : RespValues) (s : State) : (respond c v s).txStatus = s.txStatus := rfl
@[simp] theorem respond_q (c : RespCode) (v : RespValues) (s : State) : (respond c v s).q = s.q := rfl
@[simp] theorem respond_bus (c : RespCode) (v : RespValues) (s : State) : (respond c v s).bus = s.bus := rfl
@[simp] theorem respond_boiler (c : RespCode) (v : RespValues) (s : State) : (respond c v s).boiler = s.boiler := rfl
@[simp] theorem respond_thermostat (c : RespCode) (v : RespValues) (s : State) : (respond c v s).thermostat = s.thermostat := rfl
@[simp] theorem respond_handlers (c : RespCode) (v : RespValues) (s : State) : (respond c v s).handlers = s.handlers := rfl
@[simp] theorem respond_rxbuf (c : RespCode) (v : RespValues) (s : State) : (respond c v s).rxbuf = s.rxbuf := rfl
@[simp] theorem respond_txbuf (c : RespCode) (v : RespValues) (s : State) : (respond c v s).txbuf = s.txbuf := rfl
@[simp] theorem respond_tlg (c : RespCode) (v : RespValues) (s : State) : (respond c v s).tlg = s.tlg := rfl
@[simp] theorem respond_result (c : RespCode) (v : RespValues) (s : State) : (respond c v s).result = s.result := rfl
@[simp] theorem respond_inbox (c : RespCode) (v : RespValues) (s : State) : (respond c v s).inbox = s.inbox := rfl

@[simp] theorem respond_outbox (c : RespCode) (v : RespValues) (s : State) :
    (respond c v s).outbox = s.outbox ++ [.resp c v] := rfl

@[simp] theorem evtHead_cfg (c : Condition) (s : State) : (evtHead c s).cfg = s.cfg := by unfold evtHead; split <;> rfl
@[simp] theorem evtHead_txStatus (c : Condition) (s : State) : (evtHead c s).txStatus = s.txStatus := by unfold evtHead; split <;> rfl
@[simp] theorem evtHead_q (c : Condition) (s : State) : (evtHead c s).q = s.q := by unfold evtHead; split <;> rfl
@[simp] theorem evtHead_bus (c : Condition) (s : State) : (evtHead c s).bus = s.bus := by unfold evtHead; split <;> rfl
@[simp] theorem evtHead_boiler (c : Condition) (s : State) : (evtHead c s).boiler = s.boiler := by unfold evtHead; split <;> rfl
@[simp] theorem evtHead_thermostat (c : Condition) (s : State) : (evtHead c s).thermostat = s.thermostat := by unfold evtHead; split <;> rfl
@[simp] theorem evtHead_handlers (c : Condition) (s : State) : (evtHead c s).handlers = s.handlers := by unfold evtHead; split <;> rfl
@[simp] theorem evtHead_rxbuf (c : Condition) (s : State) : (evtHead c s).rxbuf = s.rxbuf := by unfold evtHead; split <;> rfl
@[simp] theorem evtHead_txbuf (c : Condition) (s : State) : (evtHead c s).txbuf = s.txbuf := by unfold evtHead; split <;> rfl
@[simp] theorem evtHead_tlg (c : Condition) (s : State) : (evtHead c s).tlg = s.tlg := by unfold evtHead; split <;> rfl
@[simp] theorem evtHead_result (c : Condition) (s : State) : (evtHead c s).result = s.result := by unfold evtHead; split <;> rfl
@[simp] theorem evtHead_inbox (c : Condition) (s : State) : (evtHead c s).inbox = s.inbox := by unfold evtHead; split <;> rfl

/-- The `EVT` of a condition carries the head's type and dest; there is none without a head. -/
theorem evtHead_outbox (c : Condition) (s : State) :
    (evtHead c s).outbox = s.outbox ++ (s.q.head?.map fun r => Output.evt c r.type r.dest).toList := by
  unfold evtHead; split <;> simp_all

@[simp] theorem countMismatch_cfg (s : State) : (countMismatch s).cfg = s.cfg := by unfold countMismatch; simp
@[simp] theorem countMismatch_txStatus (s : State) : (countMismatch s).txStatus = s.txStatus := by unfold countMismatch; simp
@[simp] theorem countMismatch_boiler (s : State) : (countMismatch s).boiler = s.boiler := by unfold countMismatch; simp
@[simp] theorem countMismatch_thermostat (s : State) : (countMismatch s).thermostat = s.thermostat := by unfold countMismatch; simp
@[simp] theorem countMismatch_handlers (s : State) : (countMismatch s).handlers = s.handlers := by unfold countMismatch; simp
@[simp] theorem countMismatch_rxbuf (s : State) : (countMismatch s).rxbuf = s.rxbuf := by unfold countMismatch; simp
@[simp] theorem countMismatch_txbuf (s : State) : (countMismatch s).txbuf = s.txbuf := by unfold countMismatch; simp
@[simp] theorem countMismatch_tlg (s : State) : (countMismatch s).tlg = s.tlg := by unfold countMismatch; simp
@[simp] theorem countMismatch_result (s : State) : (countMismatch s).result = s.result := by unfold countMismatch; simp
@[simp] theorem countMismatch_inbox (s : State) : (countMismatch s).inbox = s.inbox := by unfold countMismatch; simp
@[simp] theorem countMismatch_outbox (s : State) : (countMismatch s).outbox = s.outbox := by unfold countMismatch; simp

@[simp] theorem countMismatch_q (s : State) :
    (countMismatch s).q = s.q.modifyHead (fun r => { r with retryCount := r.retryCount + 1 }) := by
  unfold countMismatch; simp
@[simp] theorem countMismatch_bus (s : State) :
    (countMismatch s).bus = { s.bus with retryCount := satInc s.bus.retryCount } := by
  unfold countMismatch; simp

@[simp] theorem raise_cfg (c : Condition) (s : State) : (raise c s).cfg = s.cfg := by cases c <;> simp [raise]
@[simp] theorem raise_boiler (c : Condition) (s : State) : (raise c s).boiler = s.boiler := by cases c <;> simp [raise]
@[simp] theorem raise_thermostat (c : Condition) (s : State) : (raise c s).thermostat = s.thermostat := by cases c <;> simp [raise]
@[simp] theorem raise_handlers (c : Condition) (s : State) : (raise c s).handlers = s.handlers := by cases c <;> simp [raise]
@[simp] theorem raise_rxbuf (c : Condition) (s : State) : (raise c s).rxbuf = s.rxbuf := by cases c <;> simp [raise]
@[simp] theorem raise_txbuf (c : Condition) (s : State) : (raise c s).txbuf = s.txbuf := by cases c <;> simp [raise]
@[simp] theorem raise_tlg (c : Condition) (s : State) : (raise c s).tlg = s.tlg := by cases c <;> simp [raise]
@[simp] theorem raise_result (c : Condition) (s : State) : (raise c s).result = s.result := by cases c <;> simp [raise]
@[simp] theorem raise_inbox (c : Condition) (s : State) : (raise c s).inbox = s.inbox := by cases c <;> simp [raise]

/-- Everything `answerPush` does: it answers, once. -/
theorem answerPush_eq (p : Bool × State) :
    answerPush p = respond (if p.1 then .queueFull else .ok) .none p.2 := by
  unfold answerPush; split <;> simp_all [raise]

@[simp] theorem endEvent_cfg (s : State) : (endEvent s).cfg = s.cfg := rfl
@[simp] theorem endEvent_txStatus (s : State) : (endEvent s).txStatus = s.txStatus := rfl
@[simp] theorem endEvent_q (s : State) : (endEvent s).q = s.q := rfl
@[simp] theorem endEvent_bus (s : State) : (endEvent s).bus = s.bus := rfl
@[simp] theorem endEvent_boiler (s : State) : (endEvent s).boiler = s.boiler := rfl
@[simp] theorem endEvent_thermostat (s : State) : (endEvent s).thermostat = s.thermostat := rfl
@[simp] theorem endEvent_handlers (s : State) : (endEvent s).handlers = s.handlers := rfl
@[simp] theorem endEvent_txbuf (s : State) : (endEvent s).txbuf = s.txbuf := rfl
@[simp] theorem endEvent_result (s : State) : (endEvent s).result = s.result := rfl
@[simp] theorem endEvent_inbox (s : State) : (endEvent s).inbox = s.inbox := rfl
@[simp] theorem endEvent_outbox (s : State) : (endEvent s).outbox = s.outbox := rfl

@[simp] theorem endEvent_rxbuf (s : State) : (endEvent s).rxbuf = [] := rfl
@[simp] theorem endEvent_tlg (s : State) : (endEvent s).tlg = none := rfl

@[simp] theorem takeEvent_cfg (e : Event) (rest : List Event) (s : State) : (takeEvent e rest s).cfg = s.cfg := by cases e <;> rfl
@[simp] theorem takeEvent_txStatus (e : Event) (rest : List Event) (s : State) : (takeEvent e rest s).txStatus = s.txStatus := by cases e <;> rfl
@[simp] theorem takeEvent_q (e : Event) (rest : List Event) (s : State) : (takeEvent e rest s).q = s.q := by cases e <;> rfl
@[simp] theorem takeEvent_bus (e : Event) (rest : List Event) (s : State) : (takeEvent e rest s).bus = s.bus := by cases e <;> rfl
@[simp] theorem takeEvent_boiler (e : Event) (rest : List Event) (s : State) : (takeEvent e rest s).boiler = s.boiler := by cases e <;> rfl
@[simp] theorem takeEvent_thermostat (e : Event) (rest : List Event) (s : State) : (takeEvent e rest s).thermostat = s.thermostat := by cases e <;> rfl
@[simp] theorem takeEvent_handlers (e : Event) (rest : List Event) (s : State) : (takeEvent e rest s).handlers = s.handlers := by cases e <;> rfl
@[simp] theorem takeEvent_txbuf (e : Event) (rest : List Event) (s : State) : (takeEvent e rest s).txbuf = s.txbuf := by cases e <;> rfl
@[simp] theorem takeEvent_tlg (e : Event) (rest : List Event) (s : State) : (takeEvent e rest s).tlg = s.tlg := by cases e <;> rfl
@[simp] theorem takeEvent_result (e : Event) (rest : List Event) (s : State) : (takeEvent e rest s).result = s.result := by cases e <;> rfl
@[simp] theorem takeEvent_outbox (e : Event) (rest : List Event) (s : State) : (takeEvent e rest s).outbox = s.outbox := by cases e <;> rfl

@[simp] theorem takeEvent_inbox (e : Event) (rest : List Event) (s : State) : (takeEvent e rest s).inbox = rest := by
  cases e <;> rfl

/-- A guarded operation answers its state exactly where it is selected. -/
theorem whenSelected_next (i : Instr) (s t : State) (h : selectedIn s.cfg s.txStatus s.q.head? i = true) :
    whenSelected i s t = .next t := by simp [whenSelected, h]

theorem whenWellFormed_next (i : Instr) (s t : State) (h : wellFormed s.cfg i = true) :
    whenWellFormed i s t = .next t := by simp [whenWellFormed, h]

/-- Bytes written over a list at a valid index are read back there. -/
theorem splice_read (b v : List Byte) (i : Nat) (h : i ≤ b.length) :
    i + v.length ≤ (b.take i ++ v ++ b.drop (i + v.length)).length ∧
      ((b.take i ++ v ++ b.drop (i + v.length)).drop i).take v.length = v := by
  constructor
  · simp; omega
  · rw [List.append_assoc, List.drop_append_of_le_length (by simp; omega), List.drop_of_length_le (by simp)]
    simp

/-- A write into a buffer is read back (20_memory.md R51). -/
theorem memRead_memWrite (sp : Space) (i : Nat) (v : List Byte) (s s' : State) (h : memWrite sp i v s = some s') :
    memRead sp i v.length s' = some v := by
  unfold memWrite at h
  simp only at h
  split at h
  · rename_i hc
    have hs := splice_read (spaceBytes sp s) v i hc.1
    cases sp
    · injection h with h; subst h
      exact (if_pos hs.1).trans (congrArg some hs.2)
    · injection h with h; subst h
      exact (if_pos hs.1).trans (congrArg some hs.2)
    · cases h
  · cases h

/-- Saturation: one more, up to the greatest value, so a counter never decreases (10_state.md R24). -/
theorem satInc_toNat (c : Count) : (satInc c).toNat = min (c.toNat + 1) (2 ^ 32 - 1) := by
  have := c.isLt
  unfold satInc
  split
  · rw [BitVec.toNat_add]; simp; omega
  · omega

theorem le_satInc (c : Count) : c.toNat ≤ (satInc c).toNat := by
  rw [satInc_toNat]; have := c.isLt; omega

/-- The age of a timestamp that is not later than `now` (R152). -/
theorem age_of_le (ts now : Time) (h : ts.toNat ≤ now.toNat) : age ts now + ts.toNat = now.toNat := by
  unfold age; omega

/-- A liveness predicate is an age test (R153, R154). -/
theorem fresh_some (ts now : Time) (threshold : Nat) : fresh (some ts) threshold now = decide (age ts now < threshold) := rfl

theorem fresh_none (now : Time) (threshold : Nat) : fresh none threshold now = false := rfl

theorem age_of_lt (ts now : Time) (h : now.toNat < ts.toNat) : age ts now = 0 := by
  unfold age; omega

end Sys2Proof.Machine
end

