-- ==== Sys2Proof/Laws/PerInstr.lean ====
section
/-! SUPPORT. The family `BitPattern`: which operations have a bit pattern (30_encoding.md R58, R69 to R75), one lemma per
constructor. -/

namespace Sys2Proof.Laws.BitPattern

open Sys2Proof

/-- Whether an operation is written as bytes on the wire or as a command: not the internal ones (30_encoding.md R75), and not
an extended telegram, whose layout the spec leaves open (R66). -/
def hasWords (i : Instr) : Bool :=
  match i with
  | .rxEmpty _ => true
  | .rxPoll _ => true
  | .rxWack _ => true
  | .rxWnack _ => true
  | .rxOther1 _ _ => true
  | .rxNoise _ _ => true
  | .rxBadcrc _ _ => true
  | .rxTlgIdle t _ => !t.type.ext
  | .rxTlgWaitNotOurs t _ => !t.type.ext
  | .rxTlgWaitRead t _ => !t.type.ext
  | .rxTlgWaitValidate t _ => !t.type.ext
  | .rxTlgWaitWrite t _ => !t.type.ext
  | .rxTlgWaitOther t _ => !t.type.ext
  | .txRd _ _ _ _ => true
  | .txWr _ _ _ _ => true
  | .txRaw _ => true
  | .txAck => true
  | .enqRead _ _ _ _ => true
  | .enqWrite _ _ _ _ _ _ => true
  | .enqRaw _ _ => true
  | .busStatus _ => true
  | .regSnapshot _ => true
  | .rescan _ => true
  | .scan _ => true
  | .clearQueue _ => true
  | .resetCounters _ => true
  | .regHandler _ _ _ _ => true
  | .cmdIllegal _ _ => true
  | .checksum _ => false
  | .verify _ => false
  | .classify _ => false
  | .decodeHeaderS _ => false
  | .decodeHeaderX _ => false
  | .encodeRd _ => false
  | .encodeWr _ => false
  | .encodeRaw _ => false
  | .encodeAck => false
  | .lookup _ _ => false
  | .onVersion _ => false
  | .assign _ _ _ => false
  | .scanDevices => false
  | .sendHead => false
  | .retryOrDrop _ => false
  | .createValidate => false
  | .restoreWrite => false
  | .dispatch _ _ => false
  | .connected _ => false
  | .txCapable _ => false

/-- The encoder gives an encoding to exactly the operations that have a bit pattern. -/
def Statement (i : Instr) : Prop := ∀ c, (encode c i).isSome = hasWords i

theorem telegramEvent_isSome (c : Config) (t : Telegram) (now : Time) :
    (telegramEvent c t now).isSome = !t.type.ext := by
  cases h : t.type.ext <;> simp [telegramEvent, encodeTelegram, h]

theorem rxEmpty : ∀ now, Statement (.rxEmpty now) := fun _ _ => rfl
theorem rxPoll : ∀ now, Statement (.rxPoll now) := fun _ _ => rfl
theorem rxWack : ∀ now, Statement (.rxWack now) := fun _ _ => rfl
theorem rxWnack : ∀ now, Statement (.rxWnack now) := fun _ _ => rfl
theorem rxOther1 : ∀ b now, Statement (.rxOther1 b now) := fun _ _ _ => rfl
theorem rxNoise : ∀ f now, Statement (.rxNoise f now) := fun _ _ _ => rfl
theorem rxBadcrc : ∀ f now, Statement (.rxBadcrc f now) := fun _ _ _ => rfl
theorem rxTlgIdle : ∀ t now, Statement (.rxTlgIdle t now) := fun t now c => telegramEvent_isSome c t now
theorem rxTlgWaitNotOurs : ∀ t now, Statement (.rxTlgWaitNotOurs t now) := fun t now c => telegramEvent_isSome c t now
theorem rxTlgWaitRead : ∀ t now, Statement (.rxTlgWaitRead t now) := fun t now c => telegramEvent_isSome c t now
theorem rxTlgWaitValidate : ∀ t now, Statement (.rxTlgWaitValidate t now) := fun t now c => telegramEvent_isSome c t now
theorem rxTlgWaitWrite : ∀ t now, Statement (.rxTlgWaitWrite t now) := fun t now c => telegramEvent_isSome c t now
theorem rxTlgWaitOther : ∀ t now, Statement (.rxTlgWaitOther t now) := fun t now c => telegramEvent_isSome c t now
theorem txRd : ∀ dest type offset count, Statement (.txRd dest type offset count) := fun _ _ _ _ _ => rfl
theorem txWr : ∀ dest type offset payload, Statement (.txWr dest type offset payload) := fun _ _ _ _ _ => rfl
theorem txRaw : ∀ bytes, Statement (.txRaw bytes) := fun _ _ => rfl
theorem txAck : Statement .txAck := fun _ => rfl
theorem enqRead : ∀ type dest forceRefresh now, Statement (.enqRead type dest forceRefresh now) := fun _ _ _ _ _ => rfl
theorem enqWrite : ∀ type dest offset payload validateType now, Statement (.enqWrite type dest offset payload validateType now) := fun _ _ _ _ _ _ _ => rfl
theorem enqRaw : ∀ bytes now, Statement (.enqRaw bytes now) := fun _ _ _ => rfl
theorem busStatus : ∀ now, Statement (.busStatus now) := fun _ _ => rfl
theorem regSnapshot : ∀ now, Statement (.regSnapshot now) := fun _ _ => rfl
theorem rescan : ∀ now, Statement (.rescan now) := fun _ _ => rfl
theorem scan : ∀ now, Statement (.scan now) := fun _ _ => rfl
theorem clearQueue : ∀ now, Statement (.clearQueue now) := fun _ _ => rfl
theorem resetCounters : ∀ now, Statement (.resetCounters now) := fun _ _ => rfl
theorem regHandler : ∀ scope type cb now, Statement (.regHandler scope type cb now) := fun _ _ _ _ _ => rfl
theorem cmdIllegal : ∀ code now, Statement (.cmdIllegal code now) := fun _ _ _ => rfl
theorem checksum : ∀ bs, Statement (.checksum bs) := fun _ _ => rfl
theorem verify : ∀ f, Statement (.verify f) := fun _ _ => rfl
theorem classify : ∀ f, Statement (.classify f) := fun _ _ => rfl
theorem decodeHeaderS : ∀ f, Statement (.decodeHeaderS f) := fun _ _ => rfl
theorem decodeHeaderX : ∀ f, Statement (.decodeHeaderX f) := fun _ _ => rfl
theorem encodeRd : ∀ r, Statement (.encodeRd r) := fun _ _ => rfl
theorem encodeWr : ∀ r, Statement (.encodeWr r) := fun _ _ => rfl
theorem encodeRaw : ∀ r, Statement (.encodeRaw r) := fun _ _ => rfl
theorem encodeAck : Statement .encodeAck := fun _ => rfl
theorem lookup : ∀ table id, Statement (.lookup table id) := fun _ _ _ => rfl
theorem onVersion : ∀ t, Statement (.onVersion t) := fun _ _ => rfl
theorem assign : ∀ kind record version, Statement (.assign kind record version) := fun _ _ _ _ => rfl
theorem scanDevices : Statement .scanDevices := fun _ => rfl
theorem sendHead : Statement .sendHead := fun _ => rfl
theorem retryOrDrop : ∀ code, Statement (.retryOrDrop code) := fun _ _ => rfl
theorem createValidate : Statement .createValidate := fun _ => rfl
theorem restoreWrite : Statement .restoreWrite := fun _ => rfl
theorem dispatch : ∀ t refresh, Statement (.dispatch t refresh) := fun _ _ _ => rfl
theorem connected : ∀ now, Statement (.connected now) := fun _ _ => rfl
theorem txCapable : ∀ now, Statement (.txCapable now) := fun _ _ => rfl

end Sys2Proof.Laws.BitPattern
end

