-- ==== Sys2Proof/Laws/Registry.lean ====
section
/-! SUPPORT. The registry and the dispatcher: what ASSIGN, ON_VERSION and DISPATCH change and leave alone. -/

namespace Sys2Proof.Machine

@[simp] theorem assign_cfg (k : Kind) (rec : DeviceRecord) (ver : Byte × Byte) (s : State) : (assign k rec ver s).cfg = s.cfg := by
  unfold assign; split <;> simp
@[simp] theorem assign_txStatus (k : Kind) (rec : DeviceRecord) (ver : Byte × Byte) (s : State) : (assign k rec ver s).txStatus = s.txStatus := by
  unfold assign; split <;> simp
@[simp] theorem assign_bus (k : Kind) (rec : DeviceRecord) (ver : Byte × Byte) (s : State) : (assign k rec ver s).bus = s.bus := by
  unfold assign; split <;> simp
@[simp] theorem assign_handlers (k : Kind) (rec : DeviceRecord) (ver : Byte × Byte) (s : State) : (assign k rec ver s).handlers = s.handlers := by
  unfold assign; split <;> simp
@[simp] theorem assign_rxbuf (k : Kind) (rec : DeviceRecord) (ver : Byte × Byte) (s : State) : (assign k rec ver s).rxbuf = s.rxbuf := by
  unfold assign; split <;> simp
@[simp] theorem assign_txbuf (k : Kind) (rec : DeviceRecord) (ver : Byte × Byte) (s : State) : (assign k rec ver s).txbuf = s.txbuf := by
  unfold assign; split <;> simp
@[simp] theorem assign_tlg (k : Kind) (rec : DeviceRecord) (ver : Byte × Byte) (s : State) : (assign k rec ver s).tlg = s.tlg := by
  unfold assign; split <;> simp
@[simp] theorem assign_result (k : Kind) (rec : DeviceRecord) (ver : Byte × Byte) (s : State) : (assign k rec ver s).result = s.result := by
  unfold assign; split <;> simp
@[simp] theorem assign_inbox (k : Kind) (rec : DeviceRecord) (ver : Byte × Byte) (s : State) : (assign k rec ver s).inbox = s.inbox := by
  unfold assign; split <;> simp
@[simp] theorem assign_outbox (k : Kind) (rec : DeviceRecord) (ver : Byte × Byte) (s : State) : (assign k rec ver s).outbox = s.outbox := by
  unfold assign; split <;> simp

/-- ASSIGN only adds at the tail. -/
theorem assign_q (k : Kind) (rec : DeviceRecord) (ver : Byte × Byte) (s : State) :
    (assign k rec ver s).q = if assignable s.cfg (slotOf k s) rec then
      s.q ++ (burstRequests s.cfg k rec).take (s.cfg.queueDepth - s.q.length) else s.q := by
  unfold assign; split <;> simp [pushAll_q]

/-- The slot of the kind after ASSIGN. -/
theorem slotOf_assign (k : Kind) (rec : DeviceRecord) (ver : Byte × Byte) (s : State) :
    slotOf k (assign k rec ver s) =
      if assignable s.cfg (slotOf k s) rec then assignedSlot rec ver else slotOf k s := by
  unfold assign
  split
  · cases k <;> simp [slotOf]
  · rfl

@[simp] theorem assign_boiler_thermostat (rec : DeviceRecord) (ver : Byte × Byte) (s : State) :
    (assign .boiler rec ver s).thermostat = s.thermostat := by unfold assign; split <;> simp

@[simp] theorem assign_thermostat_boiler (rec : DeviceRecord) (ver : Byte × Byte) (s : State) :
    (assign .thermostat rec ver s).boiler = s.boiler := by unfold assign; split <;> simp

/-- A matched slot is left as it is, and nothing is enqueued. -/
theorem assign_of_matched (k : Kind) (rec : DeviceRecord) (ver : Byte × Byte) (s : State)
    (h : (slotOf k s).matched = true) : assign k rec ver s = s := by
  simp [assign, assignable, h]

/-- The burst's requests are Reads of this configuration. -/
theorem mem_burstReads {rows : List BurstRow} {k : Kind} {rec : DeviceRecord} {b : BurstRead}
    (h : b ∈ burstReads rows k rec) : ∃ row ∈ rows, b ∈ row.reads := by
  induction rows with
  | nil => simp [burstReads] at h
  | cons row rest ih =>
    unfold burstReads at h
    split at h
    · exact ⟨row, by simp, h⟩
    · obtain ⟨r, hr, hb⟩ := ih h; exact ⟨r, by simp [hr], hb⟩

/-- ON_VERSION either does nothing or is one ASSIGN. -/
theorem onVersion_cases (t : Telegram) (s : State) :
    onVersion t s = s ∨ ∃ k rec ver, resolveVersion s.cfg t = some (k, rec, ver) ∧ onVersion t s = assign k rec ver s := by
  unfold onVersion
  split
  · rename_i k rec ver h; exact .inr ⟨k, rec, ver, h, rfl⟩
  · exact .inl rfl

@[simp] theorem onVersion_cfg (t : Telegram) (s : State) : (onVersion t s).cfg = s.cfg := by
  unfold onVersion; split <;> simp
@[simp] theorem onVersion_txStatus (t : Telegram) (s : State) : (onVersion t s).txStatus = s.txStatus := by
  unfold onVersion; split <;> simp
@[simp] theorem onVersion_bus (t : Telegram) (s : State) : (onVersion t s).bus = s.bus := by
  unfold onVersion; split <;> simp
@[simp] theorem onVersion_handlers (t : Telegram) (s : State) : (onVersion t s).handlers = s.handlers := by
  unfold onVersion; split <;> simp
@[simp] theorem onVersion_rxbuf (t : Telegram) (s : State) : (onVersion t s).rxbuf = s.rxbuf := by
  unfold onVersion; split <;> simp
@[simp] theorem onVersion_txbuf (t : Telegram) (s : State) : (onVersion t s).txbuf = s.txbuf := by
  unfold onVersion; split <;> simp
@[simp] theorem onVersion_tlg (t : Telegram) (s : State) : (onVersion t s).tlg = s.tlg := by
  unfold onVersion; split <;> simp
@[simp] theorem onVersion_result (t : Telegram) (s : State) : (onVersion t s).result = s.result := by
  unfold onVersion; split <;> simp
@[simp] theorem onVersion_inbox (t : Telegram) (s : State) : (onVersion t s).inbox = s.inbox := by
  unfold onVersion; split <;> simp
@[simp] theorem onVersion_outbox (t : Telegram) (s : State) : (onVersion t s).outbox = s.outbox := by
  unfold onVersion; split <;> simp

@[simp] theorem routeVersion_cfg (t : Telegram) (s : State) : (routeVersion t s).cfg = s.cfg := by
  unfold routeVersion; split <;> simp
@[simp] theorem routeVersion_txStatus (t : Telegram) (s : State) : (routeVersion t s).txStatus = s.txStatus := by
  unfold routeVersion; split <;> simp
@[simp] theorem routeVersion_bus (t : Telegram) (s : State) : (routeVersion t s).bus = s.bus := by
  unfold routeVersion; split <;> simp
@[simp] theorem routeVersion_handlers (t : Telegram) (s : State) : (routeVersion t s).handlers = s.handlers := by
  unfold routeVersion; split <;> simp
@[simp] theorem routeVersion_rxbuf (t : Telegram) (s : State) : (routeVersion t s).rxbuf = s.rxbuf := by
  unfold routeVersion; split <;> simp
@[simp] theorem routeVersion_txbuf (t : Telegram) (s : State) : (routeVersion t s).txbuf = s.txbuf := by
  unfold routeVersion; split <;> simp
@[simp] theorem routeVersion_tlg (t : Telegram) (s : State) : (routeVersion t s).tlg = s.tlg := by
  unfold routeVersion; split <;> simp
@[simp] theorem routeVersion_result (t : Telegram) (s : State) : (routeVersion t s).result = s.result := by
  unfold routeVersion; split <;> simp
@[simp] theorem routeVersion_inbox (t : Telegram) (s : State) : (routeVersion t s).inbox = s.inbox := by
  unfold routeVersion; split <;> simp
@[simp] theorem routeVersion_outbox (t : Telegram) (s : State) : (routeVersion t s).outbox = s.outbox := by
  unfold routeVersion; split <;> simp

@[simp] theorem dispatch_cfg (t : Telegram) (refresh : Bool) (s : State) : (dispatch t refresh s).cfg = s.cfg := by
  unfold dispatch; simp
@[simp] theorem dispatch_txStatus (t : Telegram) (refresh : Bool) (s : State) : (dispatch t refresh s).txStatus = s.txStatus := by
  unfold dispatch; simp
@[simp] theorem dispatch_bus (t : Telegram) (refresh : Bool) (s : State) : (dispatch t refresh s).bus = s.bus := by
  unfold dispatch; simp
@[simp] theorem dispatch_handlers (t : Telegram) (refresh : Bool) (s : State) : (dispatch t refresh s).handlers = s.handlers := by
  unfold dispatch; simp
@[simp] theorem dispatch_rxbuf (t : Telegram) (refresh : Bool) (s : State) : (dispatch t refresh s).rxbuf = s.rxbuf := by
  unfold dispatch; simp
@[simp] theorem dispatch_txbuf (t : Telegram) (refresh : Bool) (s : State) : (dispatch t refresh s).txbuf = s.txbuf := by
  unfold dispatch; simp
@[simp] theorem dispatch_tlg (t : Telegram) (refresh : Bool) (s : State) : (dispatch t refresh s).tlg = s.tlg := by
  unfold dispatch; simp
@[simp] theorem dispatch_result (t : Telegram) (refresh : Bool) (s : State) : (dispatch t refresh s).result = s.result := by
  unfold dispatch; simp
@[simp] theorem dispatch_inbox (t : Telegram) (refresh : Bool) (s : State) : (dispatch t refresh s).inbox = s.inbox := by
  unfold dispatch; simp

/-- ON_VERSION only adds Reads of the burst at the tail. -/
theorem onVersion_q (t : Telegram) (s : State) :
    ∃ new, (onVersion t s).q = s.q ++ new ∧
      ∀ r ∈ new, ∃ row ∈ s.cfg.initBurst, ∃ b ∈ row.reads, r = readRequest s.cfg b.type b.dest b.forceRefresh := by
  obtain h | ⟨k, rec, ver, -, h⟩ := onVersion_cases t s
  · exact ⟨[], by simp [h], by simp⟩
  · rw [h, assign_q]
    split
    · refine ⟨_, rfl, fun r hr => ?_⟩
      obtain ⟨b, hb, rfl⟩ := List.mem_map.1 (List.mem_of_mem_take hr)
      obtain ⟨row, hrow, hb⟩ := mem_burstReads hb
      exact ⟨row, hrow, b, hb, rfl⟩
    · exact ⟨[], by simp, by simp⟩

theorem onVersion_q_length (t : Telegram) (s : State) (h : s.q.length ≤ s.cfg.queueDepth) :
    (onVersion t s).q.length ≤ s.cfg.queueDepth := by
  obtain h' | ⟨k, rec, ver, -, h'⟩ := onVersion_cases t s
  · rwa [h']
  · rw [h', assign_q]
    split
    · simp only [List.length_append, List.length_take]; omega
    · exact h

/-- DISPATCH on the queue is ON_VERSION for a Version telegram and nothing else. -/
theorem dispatch_q (t : Telegram) (refresh : Bool) (s : State) :
    (dispatch t refresh s).q =
      if t.type = typeVersion then (onVersion t (emit (.disp (dispatchFields t refresh)) s)).q else s.q := by
  unfold dispatch routeVersion; split <;> simp

theorem dispatch_q_append (t : Telegram) (refresh : Bool) (s : State) :
    ∃ new, (dispatch t refresh s).q = s.q ++ new ∧
      ∀ r ∈ new, ∃ row ∈ s.cfg.initBurst, ∃ b ∈ row.reads, r = readRequest s.cfg b.type b.dest b.forceRefresh := by
  rw [dispatch_q]
  split
  · simpa using onVersion_q t (emit (.disp (dispatchFields t refresh)) s)
  · exact ⟨[], by simp, by simp⟩

theorem dispatch_q_length (t : Telegram) (refresh : Bool) (s : State) (h : s.q.length ≤ s.cfg.queueDepth) :
    (dispatch t refresh s).q.length ≤ s.cfg.queueDepth := by
  rw [dispatch_q]
  split
  · simpa using onVersion_q_length t (emit (.disp (dispatchFields t refresh)) s) (by simpa using h)
  · exact h

/-- DISPATCH emits one DISP, then the handler calls. -/
theorem dispatch_outbox (t : Telegram) (refresh : Bool) (s : State) :
    (dispatch t refresh s).outbox = s.outbox ++ .disp (dispatchFields t refresh) ::
      handlerCalls t refresh (routeVersion t (emit (.disp (dispatchFields t refresh)) s)) := by
  unfold dispatch; simp

/-- The registry does not look at the outputs. -/
theorem onVersion_emitAll (t : Telegram) (os : List Output) (s : State) :
    onVersion t (emitAll os s) = emitAll os (onVersion t s) := by
  unfold onVersion
  rw [show (emitAll os s).cfg = s.cfg from rfl]
  split
  · rename_i k rec ver h
    unfold assign
    rw [show slotOf k (emitAll os s) = slotOf k s by cases k <;> rfl, show (emitAll os s).cfg = s.cfg from rfl]
    split
    · simp only [pushAll_eq]
      cases k <;> rfl
    · rfl
  · rfl

theorem handlerCalls_emitAll (t : Telegram) (refresh : Bool) (os : List Output) (s : State) :
    handlerCalls t refresh (emitAll os s) = handlerCalls t refresh s := rfl

/-- DISPATCH as one update of the state the Version routing leaves (43_dispatcher.md R142). -/
theorem dispatch_eq (t : Telegram) (refresh : Bool) (s : State) :
    dispatch t refresh s = { routeVersion t s with
      outbox := s.outbox ++ .disp (dispatchFields t refresh) :: handlerCalls t refresh (routeVersion t s) } := by
  have h : routeVersion t (emit (.disp (dispatchFields t refresh)) s) =
      emitAll [.disp (dispatchFields t refresh)] (routeVersion t s) := by
    unfold routeVersion emit
    split
    · exact onVersion_emitAll t _ s
    · rfl
  show emitAll (handlerCalls t refresh (routeVersion t (emit _ s))) (routeVersion t (emit _ s)) = _
  rw [h, handlerCalls_emitAll]
  simp [emitAll]

/-- A handler call is an `HCALL`. -/
theorem mem_handlerCalls {t : Telegram} {refresh : Bool} {s : State} {o : Output} (h : o ∈ handlerCalls t refresh s) :
    ∃ e ∈ s.handlers, o = .hcall e.cb e.scope (dispatchFields t refresh) := by
  unfold handlerCalls at h
  split at h
  · obtain ⟨e, he, rfl⟩ := List.mem_map.1 h
    exact ⟨e, List.mem_of_mem_filter he, rfl⟩
  · cases h

end Sys2Proof.Machine
end

