-- ==== Sys2Proof/Laws/TxQueue.lean ====
section
/-! SUPPORT. The transmit queue state machine: frames of its shared operations, RETRY_OR_DROP and the two conversions in closed
form. -/

namespace Sys2Proof.Machine

@[simp] theorem telegramPrelude_cfg (t : Telegram) (now : Time) (s : State) : (telegramPrelude t now s).cfg = s.cfg := rfl
@[simp] theorem telegramPrelude_txStatus (t : Telegram) (now : Time) (s : State) : (telegramPrelude t now s).txStatus = s.txStatus := rfl
@[simp] theorem telegramPrelude_q (t : Telegram) (now : Time) (s : State) : (telegramPrelude t now s).q = s.q := rfl
@[simp] theorem telegramPrelude_boiler (t : Telegram) (now : Time) (s : State) : (telegramPrelude t now s).boiler = s.boiler := rfl
@[simp] theorem telegramPrelude_thermostat (t : Telegram) (now : Time) (s : State) : (telegramPrelude t now s).thermostat = s.thermostat := rfl
@[simp] theorem telegramPrelude_handlers (t : Telegram) (now : Time) (s : State) : (telegramPrelude t now s).handlers = s.handlers := rfl
@[simp] theorem telegramPrelude_rxbuf (t : Telegram) (now : Time) (s : State) : (telegramPrelude t now s).rxbuf = s.rxbuf := rfl
@[simp] theorem telegramPrelude_txbuf (t : Telegram) (now : Time) (s : State) : (telegramPrelude t now s).txbuf = s.txbuf := rfl
@[simp] theorem telegramPrelude_result (t : Telegram) (now : Time) (s : State) : (telegramPrelude t now s).result = s.result := rfl
@[simp] theorem telegramPrelude_inbox (t : Telegram) (now : Time) (s : State) : (telegramPrelude t now s).inbox = s.inbox := rfl
@[simp] theorem telegramPrelude_outbox (t : Telegram) (now : Time) (s : State) : (telegramPrelude t now s).outbox = s.outbox := rfl

@[simp] theorem telegramPrelude_bus (t : Telegram) (now : Time) (s : State) :
    (telegramPrelude t now s).bus = { s.bus with lastRx := some now } := rfl
@[simp] theorem telegramPrelude_tlg (t : Telegram) (now : Time) (s : State) : (telegramPrelude t now s).tlg = some t := rfl

@[simp] theorem waitPrelude_cfg (t : Telegram) (now : Time) (s : State) : (waitPrelude t now s).cfg = s.cfg := rfl
@[simp] theorem waitPrelude_q (t : Telegram) (now : Time) (s : State) : (waitPrelude t now s).q = s.q := rfl
@[simp] theorem waitPrelude_boiler (t : Telegram) (now : Time) (s : State) : (waitPrelude t now s).boiler = s.boiler := rfl
@[simp] theorem waitPrelude_thermostat (t : Telegram) (now : Time) (s : State) : (waitPrelude t now s).thermostat = s.thermostat := rfl
@[simp] theorem waitPrelude_handlers (t : Telegram) (now : Time) (s : State) : (waitPrelude t now s).handlers = s.handlers := rfl
@[simp] theorem waitPrelude_rxbuf (t : Telegram) (now : Time) (s : State) : (waitPrelude t now s).rxbuf = s.rxbuf := rfl
@[simp] theorem waitPrelude_txbuf (t : Telegram) (now : Time) (s : State) : (waitPrelude t now s).txbuf = s.txbuf := rfl
@[simp] theorem waitPrelude_result (t : Telegram) (now : Time) (s : State) : (waitPrelude t now s).result = s.result := rfl
@[simp] theorem waitPrelude_inbox (t : Telegram) (now : Time) (s : State) : (waitPrelude t now s).inbox = s.inbox := rfl
@[simp] theorem waitPrelude_outbox (t : Telegram) (now : Time) (s : State) : (waitPrelude t now s).outbox = s.outbox := rfl

@[simp] theorem waitPrelude_bus (t : Telegram) (now : Time) (s : State) :
    (waitPrelude t now s).bus = { s.bus with lastRx := some now } := rfl
@[simp] theorem waitPrelude_tlg (t : Telegram) (now : Time) (s : State) : (waitPrelude t now s).tlg = some t := rfl
@[simp] theorem waitPrelude_txStatus (t : Telegram) (now : Time) (s : State) : (waitPrelude t now s).txStatus = .idle := rfl

@[simp] theorem countRx_cfg (s : State) : (countRx s).cfg = s.cfg := rfl
@[simp] theorem countRx_txStatus (s : State) : (countRx s).txStatus = s.txStatus := rfl
@[simp] theorem countRx_q (s : State) : (countRx s).q = s.q := rfl
@[simp] theorem countRx_boiler (s : State) : (countRx s).boiler = s.boiler := rfl
@[simp] theorem countRx_thermostat (s : State) : (countRx s).thermostat = s.thermostat := rfl
@[simp] theorem countRx_handlers (s : State) : (countRx s).handlers = s.handlers := rfl
@[simp] theorem countRx_rxbuf (s : State) : (countRx s).rxbuf = s.rxbuf := rfl
@[simp] theorem countRx_txbuf (s : State) : (countRx s).txbuf = s.txbuf := rfl
@[simp] theorem countRx_tlg (s : State) : (countRx s).tlg = s.tlg := rfl
@[simp] theorem countRx_result (s : State) : (countRx s).result = s.result := rfl
@[simp] theorem countRx_inbox (s : State) : (countRx s).inbox = s.inbox := rfl
@[simp] theorem countRx_outbox (s : State) : (countRx s).outbox = s.outbox := rfl

@[simp] theorem countRx_bus (s : State) :
    (countRx s).bus = { s.bus with rxPackets := satInc s.bus.rxPackets } := rfl

@[simp] theorem createValidate_cfg (s : State) : (createValidate s).cfg = s.cfg := by simp [createValidate]
@[simp] theorem createValidate_txStatus (s : State) : (createValidate s).txStatus = s.txStatus := by simp [createValidate]
@[simp] theorem createValidate_bus (s : State) : (createValidate s).bus = s.bus := by simp [createValidate]
@[simp] theorem createValidate_boiler (s : State) : (createValidate s).boiler = s.boiler := by simp [createValidate]
@[simp] theorem createValidate_thermostat (s : State) : (createValidate s).thermostat = s.thermostat := by simp [createValidate]
@[simp] theorem createValidate_handlers (s : State) : (createValidate s).handlers = s.handlers := by simp [createValidate]
@[simp] theorem createValidate_rxbuf (s : State) : (createValidate s).rxbuf = s.rxbuf := by simp [createValidate]
@[simp] theorem createValidate_txbuf (s : State) : (createValidate s).txbuf = s.txbuf := by simp [createValidate]
@[simp] theorem createValidate_tlg (s : State) : (createValidate s).tlg = s.tlg := by simp [createValidate]
@[simp] theorem createValidate_result (s : State) : (createValidate s).result = s.result := by simp [createValidate]
@[simp] theorem createValidate_inbox (s : State) : (createValidate s).inbox = s.inbox := by simp [createValidate]
@[simp] theorem createValidate_outbox (s : State) : (createValidate s).outbox = s.outbox := by simp [createValidate]

@[simp] theorem restoreWrite_cfg (s : State) : (restoreWrite s).cfg = s.cfg := by simp [restoreWrite]
@[simp] theorem restoreWrite_txStatus (s : State) : (restoreWrite s).txStatus = s.txStatus := by simp [restoreWrite]
@[simp] theorem restoreWrite_bus (s : State) : (restoreWrite s).bus = s.bus := by simp [restoreWrite]
@[simp] theorem restoreWrite_boiler (s : State) : (restoreWrite s).boiler = s.boiler := by simp [restoreWrite]
@[simp] theorem restoreWrite_thermostat (s : State) : (restoreWrite s).thermostat = s.thermostat := by simp [restoreWrite]
@[simp] theorem restoreWrite_handlers (s : State) : (restoreWrite s).handlers = s.handlers := by simp [restoreWrite]
@[simp] theorem restoreWrite_rxbuf (s : State) : (restoreWrite s).rxbuf = s.rxbuf := by simp [restoreWrite]
@[simp] theorem restoreWrite_txbuf (s : State) : (restoreWrite s).txbuf = s.txbuf := by simp [restoreWrite]
@[simp] theorem restoreWrite_tlg (s : State) : (restoreWrite s).tlg = s.tlg := by simp [restoreWrite]
@[simp] theorem restoreWrite_result (s : State) : (restoreWrite s).result = s.result := by simp [restoreWrite]
@[simp] theorem restoreWrite_inbox (s : State) : (restoreWrite s).inbox = s.inbox := by simp [restoreWrite]
@[simp] theorem restoreWrite_outbox (s : State) : (restoreWrite s).outbox = s.outbox := by simp [restoreWrite]

@[simp] theorem createValidate_q (s : State) : (createValidate s).q = s.q.modifyHead toValidate := by simp [createValidate]
@[simp] theorem restoreWrite_q (s : State) : (restoreWrite s).q = s.q.modifyHead toWrite := by simp [restoreWrite]

@[simp] theorem sendHead_cfg (s : State) : (sendHead s).cfg = s.cfg := by
  unfold sendHead; split
  · rfl
  · split <;> rfl
@[simp] theorem sendHead_bus (s : State) : (sendHead s).bus = s.bus := by
  unfold sendHead; split
  · rfl
  · split <;> rfl
@[simp] theorem sendHead_boiler (s : State) : (sendHead s).boiler = s.boiler := by
  unfold sendHead; split
  · rfl
  · split <;> rfl
@[simp] theorem sendHead_thermostat (s : State) : (sendHead s).thermostat = s.thermostat := by
  unfold sendHead; split
  · rfl
  · split <;> rfl
@[simp] theorem sendHead_handlers (s : State) : (sendHead s).handlers = s.handlers := by
  unfold sendHead; split
  · rfl
  · split <;> rfl
@[simp] theorem sendHead_rxbuf (s : State) : (sendHead s).rxbuf = s.rxbuf := by
  unfold sendHead; split
  · rfl
  · split <;> rfl
@[simp] theorem sendHead_tlg (s : State) : (sendHead s).tlg = s.tlg := by
  unfold sendHead; split
  · rfl
  · split <;> rfl
@[simp] theorem sendHead_result (s : State) : (sendHead s).result = s.result := by
  unfold sendHead; split
  · rfl
  · split <;> rfl
@[simp] theorem sendHead_inbox (s : State) : (sendHead s).inbox = s.inbox := by
  unfold sendHead; split
  · rfl
  · split <;> rfl

/-- RETRY_OR_DROP on a head whose count does not wrap: the two increments, then kept, or reported and dropped. -/
theorem retryOrDrop_eq (g : GiveUp) (s : State) (r : TxRequest) (rest : List TxRequest) (hq : s.q = r :: rest)
    (hr : r.retryCount.toNat < 255) :
    retryOrDrop g s =
      if r.retryCount.toNat < maxRetries then
        (true, { s with q := { r with retryCount := r.retryCount + 1 } :: rest,
                        bus := { s.bus with retryCount := satInc s.bus.retryCount } })
      else
        (false, { s with q := rest, bus := { s.bus with retryCount := satInc s.bus.retryCount },
                         outbox := s.outbox ++ [.evt (giveUpOf g) r.type r.dest] }) := by
  obtain ⟨cfg, st, q, bus, bo, th, ha, rx, tx, tl, re, inb, outb⟩ := s
  subst hq
  have h1 : (r.retryCount + 1).toNat = r.retryCount.toNat + 1 := by
    rw [BitVec.toNat_add]; simp; omega
  have hm : raise (mismatchOf g) ⟨cfg, st, r :: rest, bus, bo, th, ha, rx, tx, tl, re, inb, outb⟩ =
      ⟨cfg, st, { r with retryCount := r.retryCount + 1 } :: rest, { bus with retryCount := satInc bus.retryCount },
        bo, th, ha, rx, tx, tl, re, inb, outb⟩ := by
    cases g <;> rfl
  unfold retryOrDrop
  simp only [hm, headRetry, h1]
  split
  · rw [if_neg (by omega)]
    cases g <;> rfl
  · rw [if_pos (by omega)]

/-- The first and the second mismatch keep the request at the head (R120). -/
theorem retryOrDrop_kept (g : GiveUp) (s : State) (r : TxRequest) (rest : List TxRequest) (hq : s.q = r :: rest)
    (hr : r.retryCount.toNat < 2) :
    retryOrDrop g s =
      (true, { s with q := { r with retryCount := r.retryCount + 1 } :: rest,
                      bus := { s.bus with retryCount := satInc s.bus.retryCount } }) := by
  rw [retryOrDrop_eq g s r rest hq (by omega), if_pos (show r.retryCount.toNat < maxRetries from hr)]

/-- The third mismatch drops it (R120). -/
theorem retryOrDrop_dropped (g : GiveUp) (s : State) (r : TxRequest) (rest : List TxRequest) (hq : s.q = r :: rest)
    (hr : r.retryCount.toNat = 2) :
    retryOrDrop g s =
      (false, { s with q := rest, bus := { s.bus with retryCount := satInc s.bus.retryCount },
                       outbox := s.outbox ++ [.evt (giveUpOf g) r.type r.dest] }) := by
  rw [retryOrDrop_eq g s r rest hq (by omega), if_neg (show ¬ r.retryCount.toNat < maxRetries by unfold maxRetries; omega)]

/-- RETRY_OR_DROP leaves everything else alone in every state. -/
theorem retryOrDrop_frame (g : GiveUp) (s : State) :
    (retryOrDrop g s).2.cfg = s.cfg ∧ (retryOrDrop g s).2.txStatus = s.txStatus ∧
      (retryOrDrop g s).2.boiler = s.boiler ∧ (retryOrDrop g s).2.thermostat = s.thermostat ∧
      (retryOrDrop g s).2.handlers = s.handlers ∧ (retryOrDrop g s).2.rxbuf = s.rxbuf ∧
      (retryOrDrop g s).2.txbuf = s.txbuf ∧ (retryOrDrop g s).2.tlg = s.tlg ∧ (retryOrDrop g s).2.result = s.result ∧
      (retryOrDrop g s).2.inbox = s.inbox ∧
      (retryOrDrop g s).2.bus = { s.bus with retryCount := satInc s.bus.retryCount } := by
  have h1 : (raise (mismatchOf g) s).txStatus = s.txStatus := by cases g <;> simp [raise, mismatchOf]
  have h2 : (raise (mismatchOf g) s).bus = { s.bus with retryCount := satInc s.bus.retryCount } := by
    cases g <;> simp [raise, mismatchOf]
  have h3 : ∀ u, (raise (giveUpOf g) u).txStatus = u.txStatus := by intro u; cases g <;> simp [raise, giveUpOf]
  have h4 : ∀ u, (raise (giveUpOf g) u).bus = u.bus := by intro u; cases g <;> simp [raise, giveUpOf]
  unfold retryOrDrop
  simp only
  split <;> simp [h1, h2, h3, h4]

@[simp] theorem retryOrDrop_cfg (g : GiveUp) (s : State) : (retryOrDrop g s).2.cfg = s.cfg := (retryOrDrop_frame g s).1
@[simp] theorem retryOrDrop_txStatus (g : GiveUp) (s : State) : (retryOrDrop g s).2.txStatus = s.txStatus := (retryOrDrop_frame g s).2.1
@[simp] theorem retryOrDrop_boiler (g : GiveUp) (s : State) : (retryOrDrop g s).2.boiler = s.boiler := (retryOrDrop_frame g s).2.2.1
@[simp] theorem retryOrDrop_thermostat (g : GiveUp) (s : State) : (retryOrDrop g s).2.thermostat = s.thermostat := (retryOrDrop_frame g s).2.2.2.1
@[simp] theorem retryOrDrop_handlers (g : GiveUp) (s : State) : (retryOrDrop g s).2.handlers = s.handlers := (retryOrDrop_frame g s).2.2.2.2.1
@[simp] theorem retryOrDrop_rxbuf (g : GiveUp) (s : State) : (retryOrDrop g s).2.rxbuf = s.rxbuf := (retryOrDrop_frame g s).2.2.2.2.2.1
@[simp] theorem retryOrDrop_txbuf (g : GiveUp) (s : State) : (retryOrDrop g s).2.txbuf = s.txbuf := (retryOrDrop_frame g s).2.2.2.2.2.2.1
@[simp] theorem retryOrDrop_tlg (g : GiveUp) (s : State) : (retryOrDrop g s).2.tlg = s.tlg := (retryOrDrop_frame g s).2.2.2.2.2.2.2.1
@[simp] theorem retryOrDrop_result (g : GiveUp) (s : State) : (retryOrDrop g s).2.result = s.result := (retryOrDrop_frame g s).2.2.2.2.2.2.2.2.1
@[simp] theorem retryOrDrop_inbox (g : GiveUp) (s : State) : (retryOrDrop g s).2.inbox = s.inbox := (retryOrDrop_frame g s).2.2.2.2.2.2.2.2.2.1
theorem retryOrDrop_bus (g : GiveUp) (s : State) :
    (retryOrDrop g s).2.bus = { s.bus with retryCount := satInc s.bus.retryCount } := (retryOrDrop_frame g s).2.2.2.2.2.2.2.2.2.2

@[simp] theorem readReply_cfg (t : Telegram) (s : State) : (readReply t s).cfg = s.cfg := by
  unfold readReply; split
  · rfl
  · split <;> simp
@[simp] theorem readReply_txStatus (t : Telegram) (s : State) : (readReply t s).txStatus = s.txStatus := by
  unfold readReply; split
  · rfl
  · split <;> simp
@[simp] theorem readReply_handlers (t : Telegram) (s : State) : (readReply t s).handlers = s.handlers := by
  unfold readReply; split
  · rfl
  · split <;> simp
@[simp] theorem readReply_inbox (t : Telegram) (s : State) : (readReply t s).inbox = s.inbox := by
  unfold readReply; split
  · rfl
  · split <;> simp

@[simp] theorem validateReply_cfg (t : Telegram) (s : State) : (validateReply t s).cfg = s.cfg := by
  unfold validateReply; split
  · rfl
  · split
    · simp
    · simp only; split <;> simp
@[simp] theorem validateReply_txStatus (t : Telegram) (s : State) : (validateReply t s).txStatus = s.txStatus := by
  unfold validateReply; split
  · rfl
  · split
    · simp
    · simp only; split <;> simp
@[simp] theorem validateReply_handlers (t : Telegram) (s : State) : (validateReply t s).handlers = s.handlers := by
  unfold validateReply; split
  · rfl
  · split
    · simp
    · simp only; split <;> simp
@[simp] theorem validateReply_inbox (t : Telegram) (s : State) : (validateReply t s).inbox = s.inbox := by
  unfold validateReply; split
  · rfl
  · split
    · simp
    · simp only; split <;> simp
@[simp] theorem validateReply_boiler (t : Telegram) (s : State) : (validateReply t s).boiler = s.boiler := by
  unfold validateReply; split
  · rfl
  · split
    · simp
    · simp only; split <;> simp
@[simp] theorem validateReply_thermostat (t : Telegram) (s : State) : (validateReply t s).thermostat = s.thermostat := by
  unfold validateReply; split
  · rfl
  · split
    · simp
    · simp only; split <;> simp

/-- A Validate restored from a Write is that Write again, but for the hidden fields (42_tx_state_machine.md R126). -/
theorem toWrite_toValidate (r : TxRequest) (h : r.action = .write) :
    toWrite (toValidate r) = { r with origOffset := r.offset, origPayload := r.payload } := by
  cases r; simp_all [toWrite, toValidate]

end Sys2Proof.Machine
end

