-- ==== Sys2Proof/Laws/Step.lean ====
section
/-! SUPPORT. One step: the decoded operation is well-formed and selected, so it completes; what the reply cases do to the head, and
what each operation can emit. -/

namespace Sys2Proof.Machine

theorem step_idle (s : State) (h : s.inbox = []) : step s = .next s := by
  unfold step; rw [h]

/-- A step whose event decodes runs the operation and closes the event. -/
theorem step_event (s : State) (e : Event) (rest : List Event) (i : Instr) (h : s.inbox = e :: rest)
    (hd : decodeEvent s.cfg s.txStatus s.q.head? e = .ok i) : step s = finish (exec i (takeEvent e rest s)) := by
  unfold step decodeIn; rw [h]; simp only [hd]

theorem step_rx (s : State) (f : Frame) (now : Time) (rest : List Event) (h : s.inbox = .rx f now :: rest)
    (hl : f.length ≤ s.cfg.maxFrameLen) :
    step s = finish (exec (decodeFrame s.cfg s.txStatus s.q.head? f now) (setRxbuf f (setInbox rest s))) :=
  step_event s _ rest _ h (decodeEvent_rx _ _ _ f now hl)

theorem step_rx_long (s : State) (f : Frame) (now : Time) (rest : List Event) (h : s.inbox = .rx f now :: rest)
    (hl : s.cfg.maxFrameLen < f.length) : step s = .refused .frameTooLong := by
  unfold step decodeIn; rw [h]; simp only [decodeEvent_rx_long _ _ _ f now hl]

theorem step_cmd (s : State) (code : Byte) (o : CmdOperands) (now : Time) (rest : List Event)
    (h : s.inbox = .cmd code o now :: rest) :
    step s = finish (exec (decodeCmd code o now) (setInbox rest s)) :=
  step_event s _ rest _ h rfl

/-- A guarded operation that answers a next state was selected, and that state is its result. -/
theorem of_whenSelected {i : Instr} {s t u : State} (h : whenSelected i s t = .next u) :
    selectedIn s.cfg s.txStatus s.q.head? i = true ∧ t = u := by
  unfold whenSelected at h
  split at h
  · rename_i hs; injection h with h; exact ⟨hs, h⟩
  · cases h

theorem of_whenWellFormed {i : Instr} {s t u : State} (h : whenWellFormed i s t = .next u) :
    wellFormed s.cfg i = true ∧ t = u := by
  unfold whenWellFormed at h
  split at h
  · rename_i hs; injection h with h; exact ⟨hs, h⟩
  · cases h

/-- A closed event that answers a next state closed one. -/
theorem of_finish {o : Host.Outcome State Fault Refusal} {u : State} (h : finish o = .next u) :
    ∃ v, o = .next v ∧ u = endEvent v := by
  unfold finish at h
  split at h
  · injection h with h; exact ⟨_, rfl, h.symm⟩
  · cases h
  · cases h

/-- Every operation that is well-formed and selected completes. -/
theorem exec_completes (i : Instr) (s : State) (hw : wellFormed s.cfg i = true)
    (hs : selectedIn s.cfg s.txStatus s.q.head? i = true) : ∃ u, exec i s = .next u := by
  cases i <;>
    first
    | exact ⟨_, rfl⟩
    | exact ⟨_, whenSelected_next _ _ _ hs⟩
    | exact ⟨_, whenWellFormed_next _ _ _ hw⟩

/-- What a step can do: nothing, one RX operation, or one host command. -/
theorem step_cases {s s' : State} (h : step s = .next s') :
    (s.inbox = [] ∧ s' = s) ∨
    (∃ f now rest u v, s.inbox = .rx f now :: rest ∧ f.length ≤ s.cfg.maxFrameLen ∧ u = setRxbuf f (setInbox rest s) ∧
      exec (decodeFrame u.cfg u.txStatus u.q.head? f now) u = .next v ∧ s' = endEvent v) ∨
    (∃ code o now rest v, s.inbox = .cmd code o now :: rest ∧
      exec (decodeCmd code o now) (setInbox rest s) = .next v ∧ s' = endEvent v) := by
  cases hi : s.inbox with
  | nil => rw [step_idle s hi] at h; injection h with h; exact .inl ⟨rfl, h.symm⟩
  | cons e rest =>
    right
    cases e with
    | rx f now =>
      left
      by_cases hl : f.length ≤ s.cfg.maxFrameLen
      · rw [step_rx s f now rest hi hl] at h
        obtain ⟨v, hv, rfl⟩ := of_finish h
        exact ⟨f, now, rest, _, v, rfl, hl, rfl, hv, rfl⟩
      · rw [step_rx_long s f now rest hi (Nat.lt_of_not_le hl)] at h; cases h
    | cmd code o now =>
      right
      rw [step_cmd s code o now rest hi] at h
      obtain ⟨v, hv, rfl⟩ := of_finish h
      exact ⟨code, o, now, rest, v, rfl, hv, rfl⟩

/-- What an RX event can do, row by row of the receive map (30_encoding.md R58; 42_tx_state_machine.md R108, R118). -/
theorem rx_cases {s v : State} {f : Frame} {now : Time}
    (h : exec (decodeFrame s.cfg s.txStatus s.q.head? f now) s = .next v) :
    v = s ∨
    (f = [pollByte s.cfg] ∧ v = (if s.q ≠ [] ∧ s.txStatus = .idle then sendHead (setBus { s.bus with lastPoll := some now } s)
      else pollAck (setBus { s.bus with lastPoll := some now } s))) ∨
    (f = [ackByte] ∧ s.txStatus = .wait ∧
      v = (if s.q.head?.any (·.action == .write)
        then setStatus .idle (createValidate (pollAck (setBus { s.bus with txPackets := satInc s.bus.txPackets } s)))
        else pollAck (setBus { s.bus with txPackets := satInc s.bus.txPackets } s))) ∨
    (f = [nackByte] ∧ s.txStatus = .wait ∧ v = raise .writeNacked (pollAck s)) ∨
    (minTelegramLen ≤ f.length ∧ verify s.cfg f = false ∧ v = raise .checksumMismatch s) ∨
    (minTelegramLen ≤ f.length ∧ verify s.cfg f = true ∧ decodeHeader s.cfg f = none ∧
      v = setBus { s.bus with lastRx := some now } s) ∨
    (∃ t, minTelegramLen ≤ f.length ∧ verify s.cfg f = true ∧ decodeHeader s.cfg f = some t ∧
      ((s.txStatus = .idle ∧ v = dispatch t false (telegramPrelude t now s)) ∨
       (s.txStatus = .wait ∧
        ((s.q = [] ∧ (v = dispatch t false (waitPrelude t now s) ∨ v = pollAck (dispatch t false (waitPrelude t now s)))) ∨
         ∃ r rest, s.q = r :: rest ∧
          ((t.dest ≠ s.cfg.ownId ∧ v = dispatch t false (popHead (waitPrelude t now s))) ∨
           (t.dest = s.cfg.ownId ∧
            ((r.action = .read ∧ v = pollAck (readReply t (waitPrelude t now s))) ∨
             (r.action = .validate ∧ v = pollAck (validateReply t (waitPrelude t now s))) ∨
             ((r.action = .write ∨ r.action = .raw) ∧
               v = pollAck (raise .internalInconsistency (waitPrelude t now s)))))))))) := by
  obtain rfl | ⟨b, rfl⟩ | ⟨h2, h5⟩ | ⟨h5, hv⟩ | ⟨h5, hv, hd⟩ | ⟨h5, hv, t, hd⟩ := frame_cases s.cfg f
  · left; injection h with h; exact h.symm
  · rw [decodeFrame_single] at h
    split_ifs at h with h1 h2 h3
    · right; left; injection h with h; exact ⟨by rw [h1], h.symm⟩
    · right; right; left; obtain ⟨-, h⟩ := of_whenSelected h; exact ⟨by rw [h2.1], h2.2, h.symm⟩
    · right; right; right; left; obtain ⟨-, h⟩ := of_whenSelected h; exact ⟨by rw [h3.1], h3.2, h.symm⟩
    · left; injection h with h; exact h.symm
  · rw [decodeFrame_short _ _ _ _ _ h2 h5] at h
    left; injection h with h; rw [if_neg (by omega)] at h; exact h.symm
  · rw [decodeFrame_badcrc _ _ _ _ _ h5 hv] at h
    right; right; right; right; left; injection h with h; exact ⟨h5, hv, h.symm⟩
  · rw [decodeFrame_noHeader _ _ _ _ _ h5 hv hd] at h
    right; right; right; right; right; left; injection h with h; rw [if_pos h5] at h; exact ⟨h5, hv, hd, h.symm⟩
  · rw [decodeFrame_of_header _ _ _ _ _ _ h5 hv hd] at h
    right; right; right; right; right; right
    refine ⟨t, h5, hv, hd, ?_⟩
    cases hst : s.txStatus with
    | idle =>
      rw [hst] at h
      obtain ⟨-, h⟩ := of_whenSelected h
      exact .inl ⟨rfl, h.symm⟩
    | wait =>
      rw [hst] at h
      right
      refine ⟨rfl, ?_⟩
      cases hq : s.q with
      | nil =>
        left
        rw [hq] at h
        obtain ⟨-, h⟩ := of_whenSelected h
        refine ⟨rfl, ?_⟩
        rw [← h]
        unfold otherReply
        rw [waitPrelude_q, hq]
        simp only
        split
        · exact .inr rfl
        · exact .inl rfl
      | cons r rest =>
        right
        refine ⟨r, rest, rfl, ?_⟩
        rw [hq] at h
        by_cases ht : t.dest = s.cfg.ownId
        · right
          refine ⟨ht, ?_⟩
          cases ha : r.action
          all_goals simp only [telegramCase, waitCase, List.head?_cons, ht, ne_eq, not_true_eq_false, if_false, ha] at h
          · obtain ⟨-, h⟩ := of_whenSelected h; exact .inl ⟨rfl, h.symm⟩
          · obtain ⟨-, h⟩ := of_whenSelected h; exact .inr (.inr ⟨.inl rfl, h.symm⟩)
          · obtain ⟨-, h⟩ := of_whenSelected h; exact .inr (.inl ⟨rfl, h.symm⟩)
          · obtain ⟨-, h⟩ := of_whenSelected h
            refine .inr (.inr ⟨.inr rfl, ?_⟩)
            rw [← h]
            unfold otherReply
            rw [waitPrelude_q, hq]
        · left
          refine ⟨ht, ?_⟩
          simp only [telegramCase, waitCase, List.head?_cons, ht, ne_eq, not_false_eq_true, if_true] at h
          obtain ⟨-, h⟩ := of_whenSelected h
          exact h.symm

/-- What a host command can do: be refused with nothing changed, enqueue one request, answer values, or one of the system
operations (45_host_commands.md). -/
theorem cmd_cases {s v : State} {code : Byte} {o : CmdOperands} {now : Time} (h : exec (decodeCmd code o now) s = .next v) :
    (∃ rc, rc ≠ .ok ∧ v = respond rc .none s) ∨
    (∃ vals, v = respond .ok vals s) ∨
    (s.q.length < s.cfg.queueDepth ∧ ∃ r, v = respond .ok .none (setQ (s.q ++ [r]) s) ∧
      ((enqReadOk o.type o.dest = true ∧ r = readRequest s.cfg o.type (devOf o.dest) o.forceRefresh) ∨
       (enqWriteOk s.cfg o.type o.dest o.payload = true ∧
         r = writeRequest o.type (devOf o.dest) o.offset o.payload o.validateType) ∨
       (enqRawOk s.cfg o.bytes = true ∧ r = rawRequest o.bytes))) ∨
    (code = 0x06 ∧ v = answerPush (scanDevices (clearQueue (resetSlots s)))) ∨
    (code = 0x07 ∧ v = answerPush (scanDevices s)) ∨
    (code = 0x08 ∧ v = respond .ok .none (clearQueue s)) ∨
    (code = 0x09 ∧ v = respond .ok .none
      (setBus { s.bus with rxPackets := 0, txPackets := 0, crcErrors := 0, retryCount := 0 } s)) ∨
    (code = 0x0A ∧ ∃ sc hs, v = respond .ok .none (setHandlers hs s) ∧
      (replaceHandler sc o.type o.cb s.handlers = some hs ∨
       (replaceHandler sc o.type o.cb s.handlers = none ∧ s.handlers.length < s.cfg.handlerSlots ∧
         hs = s.handlers ++ [⟨sc, o.type, o.cb⟩]))) := by
  have push : ∀ r, answerPush (pushTail r s) = v → (∃ rc, rc ≠ .ok ∧ v = respond rc .none s) ∨
      (s.q.length < s.cfg.queueDepth ∧ v = respond .ok .none (setQ (s.q ++ [r]) s)) := by
    intro r hr
    by_cases hl : s.q.length < s.cfg.queueDepth
    · right; rw [pushTail_of_room r s hl] at hr; exact ⟨hl, hr.symm⟩
    · left; rw [pushTail_of_full r s (Nat.not_lt.1 hl)] at hr; exact ⟨.queueFull, by decide, hr.symm⟩
  unfold decodeCmd at h
  split_ifs at h with h1 h2 h3 h4 h5 h6 h7 h8 h9 h10
  · unfold exec execEnqRead at h
    injection h with h
    split at h
    · rename_i hk
      obtain hr | ⟨hl, hr⟩ := push _ h
      · exact .inl hr
      · exact .inr (.inr (.inl ⟨hl, _, hr, .inl ⟨hk, rfl⟩⟩))
    · exact .inl ⟨.badOperand, by decide, h.symm⟩
  · unfold exec execEnqWrite at h
    injection h with h
    split at h
    · rename_i hk
      obtain hr | ⟨hl, hr⟩ := push _ h
      · exact .inl hr
      · exact .inr (.inr (.inl ⟨hl, _, hr, .inr (.inl ⟨hk, rfl⟩)⟩))
    · exact .inl ⟨.badOperand, by decide, h.symm⟩
  · unfold exec execEnqRaw at h
    injection h with h
    split at h
    · rename_i hk
      obtain hr | ⟨hl, hr⟩ := push _ h
      · exact .inl hr
      · exact .inr (.inr (.inl ⟨hl, _, hr, .inr (.inr ⟨hk, rfl⟩)⟩))
    · exact .inl ⟨.badOperand, by decide, h.symm⟩
  · injection h with h; exact .inr (.inl ⟨_, h.symm⟩)
  · injection h with h; exact .inr (.inl ⟨_, h.symm⟩)
  · injection h with h; exact .inr (.inr (.inr (.inl ⟨h6, h.symm⟩)))
  · injection h with h; exact .inr (.inr (.inr (.inr (.inl ⟨h7, h.symm⟩))))
  · injection h with h; exact .inr (.inr (.inr (.inr (.inr (.inl ⟨h8, h.symm⟩)))))
  · injection h with h; exact .inr (.inr (.inr (.inr (.inr (.inr (.inl ⟨h9, h.symm⟩))))))
  · unfold exec execRegHandler at h
    injection h with h
    split at h
    · rename_i sc hsc
      unfold registerHandler at h
      split at h
      · rename_i hs hr
        exact .inr (.inr (.inr (.inr (.inr (.inr (.inr ⟨h10, sc, hs, h.symm, .inl hr⟩))))))
      · rename_i hr
        split at h
        · rename_i hl
          exact .inr (.inr (.inr (.inr (.inr (.inr (.inr ⟨h10, sc, _, h.symm, .inr ⟨hr, hl, rfl⟩⟩))))))
        · exact .inl ⟨.tableFull, by decide, h.symm⟩
    · exact .inl ⟨.badOperand, by decide, h.symm⟩
  · injection h with h; exact .inl ⟨.badOperand, by decide, h.symm⟩

/-- SEND_HEAD with a head transmits exactly one frame. -/
theorem sendHead_outbox (s : State) (h : s.q ≠ []) : ∃ f, (sendHead s).outbox = s.outbox ++ [.tx f] := by
  unfold sendHead
  cases hq : s.q with
  | nil => exact absurd hq h
  | cons r rest => simp only; split <;> exact ⟨_, rfl⟩

theorem slotOf_congr {k : Kind} {s u : State} (h1 : u.boiler = s.boiler) (h2 : u.thermostat = s.thermostat) :
    slotOf k u = slotOf k s := by
  cases k <;> assumption

/-- RETRY_OR_DROP on a head: counted and kept within the budget, or reported and dropped. -/
theorem retryOrDrop_cases (g : GiveUp) (s : State) (r : TxRequest) (rest : List TxRequest) (hq : s.q = r :: rest) :
    ((r.retryCount + 1).toNat ≤ maxRetries ∧ (retryOrDrop g s).1 = true ∧
        (retryOrDrop g s).2.q = { r with retryCount := r.retryCount + 1 } :: rest ∧
        (retryOrDrop g s).2.outbox = s.outbox) ∨
      ((retryOrDrop g s).1 = false ∧ (retryOrDrop g s).2.q = rest ∧
        (retryOrDrop g s).2.outbox = s.outbox ++ [.evt (giveUpOf g) r.type r.dest]) := by
  obtain ⟨cfg, st, q, bus, bo, th, ha, rx, tx, tl, re, inb, outb⟩ := s
  subst hq
  have hm : raise (mismatchOf g) ⟨cfg, st, r :: rest, bus, bo, th, ha, rx, tx, tl, re, inb, outb⟩ =
      ⟨cfg, st, { r with retryCount := r.retryCount + 1 } :: rest, { bus with retryCount := satInc bus.retryCount },
        bo, th, ha, rx, tx, tl, re, inb, outb⟩ := by
    cases g <;> rfl
  unfold retryOrDrop
  simp only [hm, headRetry]
  split
  · right
    cases g <;> exact ⟨rfl, rfl, rfl⟩
  · left
    exact ⟨by omega, rfl, rfl, rfl⟩

/-- Case READ with a head: the match completes the Read, any other reply is a mismatch (42_tx_state_machine.md R119). -/
theorem readReply_eq (t : Telegram) (s : State) (r : TxRequest) (rest : List TxRequest) (hq : s.q = r :: rest) :
    readReply t s = if readMatches t r then dispatch t r.forceRefresh (countRx (popHead s))
      else dispatch t false (retryOrDrop .readGaveUp s).2 := by
  unfold readReply; rw [hq]

/-- Case VALIDATE with a head (R121). -/
theorem validateReply_eq (t : Telegram) (s : State) (r : TxRequest) (rest : List TxRequest) (hq : s.q = r :: rest) :
    validateReply t s =
      if validateMatches t r then (pushTail (readRequest s.cfg r.postReadType r.dest true) (popHead s)).2
      else if (retryOrDrop .writeFailed s).1 then restoreWrite (retryOrDrop .writeFailed s).2
      else (retryOrDrop .writeFailed s).2 := by
  unfold validateReply; rw [hq]

theorem txFrames_append (a b : List Output) : txFrames (a ++ b) = txFrames a ++ txFrames b := by simp [txFrames]

@[simp] theorem txFrames_nil : txFrames [] = [] := rfl

/-- Handler calls transmit nothing. -/
@[simp] theorem txFrames_handlerCalls (t : Telegram) (refresh : Bool) (s : State) :
    txFrames (handlerCalls t refresh s) = [] := by
  unfold txFrames
  rw [List.filterMap_eq_nil_iff]
  intro o ho
  obtain ⟨e, -, rfl⟩ := mem_handlerCalls ho
  rfl

/-- The outputs a state adds, when its outputs are the earlier ones and more. -/
theorem emitted_of_append (s s' : State) (os : List Output) (h : s'.outbox = s.outbox ++ os) : emitted s s' = os := by
  unfold emitted; rw [h]; simp

end Sys2Proof.Machine
end

