-- ==== Sys2Proof/Tests/Slice0.lean ====
section
/-! SUPPORT. The model's own tests: ill-formed terms, decoding of words written out from the spec, one-step vectors of
95_test_vectors.md (each test names its vector), and for each obligation with hypotheses a witness that meets them. -/

namespace Sys2Proof.Tests

open Sys2Proof Sys2Proof.Machine

/-! Helpers. -/

/-- BOILER_TABLE of 95_test_vectors.md part 2.2. -/
def boilerRec : DeviceRecord := ⟨0x7B, 0x08, 4, true, true, 1⟩
def thermoRec1 : DeviceRecord := ⟨0x4D, 0x10, 9, true, false, 1⟩
def thermoRec2 : DeviceRecord := ⟨0x4E, 0x17, 10, true, true, 2⟩
def thermoRec3 : DeviceRecord := ⟨0x4F, 0x10, 11, true, true, 2⟩

/-- A one-byte type. -/
def ty (n : Nat) : TypeId := ⟨false, BitVec.ofNat 16 n⟩

/-- The configuration of 95_test_vectors.md part 2.2. -/
def cfg : Config :=
  { Config.default with
    boilerTable := [boilerRec]
    thermostatTable := [thermoRec1, thermoRec2, thermoRec3]
    initBurst := [⟨.boiler, boilerRec, [⟨ty 0x18, 0x08, false⟩, ⟨ty 0x33, 0x08, false⟩]⟩,
                  ⟨.thermostat, thermoRec1, [⟨ty 0x3E, 0x10, false⟩]⟩,
                  ⟨.thermostat, thermoRec2, [⟨ty 0x3E, 0x17, false⟩]⟩,
                  ⟨.thermostat, thermoRec3, [⟨ty 0x3E, 0x10, false⟩]⟩] }

/-- The unverified candidate layout of 93_implementation_defined.md G3. -/
def cfgX : Config := { cfg with extLayout := .candidateG3 }

def s0 : State := .resetOf cfg

/-- The state with a status and a queue. -/
def st (x : TxStatus) (q : List TxRequest) : State := { s0 with txStatus := x, q := q }

/-- `Read(type,dest,off=0,[20],rc=0)` as the vectors write it. -/
def rd (t : Nat) (d : DevId) : TxRequest := ⟨.read, d, ty t, 0, [0x20], ty 0, 0, 0, ty 0, false, 0, 0, []⟩
/-- `Write(33,08,off=2,[3C],cmp_off=2,cmp=3C,post=33,rc=0)`. -/
def wr33 : TxRequest := ⟨.write, 0x08, ty 0x33, 2, [0x3C], ty 0x33, 2, 0x3C, ty 0x33, false, 0, 0, []⟩
/-- `Write(34,10,off=0,[01 02],cmp_off=0,cmp=01,post=34,rc=0)`. -/
def wr34 : TxRequest := ⟨.write, 0x10, ty 0x34, 0, [0x01, 0x02], ty 0x34, 0, 0x01, ty 0x34, false, 0, 0, []⟩
/-- `Validate(33,08,off=2,[01],rc=0)` made from `wr33`. -/
def va33 : TxRequest := ⟨.validate, 0x08, ty 0x33, 2, [0x01], ty 0x33, 2, 0x3C, ty 0x33, false, 0, 2, [0x3C]⟩
/-- `Raw([0B 88 02 00])`. -/
def raw4 : TxRequest := ⟨.raw, 0, ty 0, 0, [0x0B, 0x88, 0x02, 0x00], ty 0, 0, 0, ty 0, false, 0, 0, []⟩

/-- A Telegram a frame `src dest type offset data` gives. -/
def tel (src dest : DevId) (t : Nat) (off : Offset) (data : List Byte) : Telegram :=
  ⟨src, dest, false, ty t, off, data, true⟩

/-- `DISP` fields of the same. -/
def df (src dest : DevId) (t : Nat) (off : Offset) (data : List Byte) (refresh : Bool) : DispatchFields :=
  ⟨src, dest, false, ty t, off, data, refresh⟩

/-- A state with its configuration hidden, so that comparing two states does not compare two checksum tables. -/
def shown (s : State) : Option State := some { s with cfg := { s.cfg with crcTable := [] } }

/-- The next state of an outcome, configuration hidden. -/
def nextOf (o : Host.Outcome State Fault Refusal) : Option State :=
  match o with
  | .next s => shown s
  | _ => none

/-- One step on one event. -/
def ev (e : Event) (s : State) : Option State := nextOf (step { s with inbox := [e] })

/-- What the vectors show of a step: status, queue, outputs. -/
def seen (o : Option State) : Option (TxStatus × List TxRequest × List Output) :=
  o.map fun s => (s.txStatus, s.q, s.outbox)

def counts (o : Option State) : Option (BusStatus) := o.map (·.bus)

/-! Ill-formed terms, one for each check of `wellFormed`. -/

theorem test_wf_receive_bytes :
    wellFormed cfg (.rxOther1 0x8B 0) = false ∧ wellFormed cfg (.rxNoise [0x08] 0) = false ∧
    wellFormed { cfg with maxFrameLen := 2 } (.rxNoise [0x08, 0x0B, 0x18] 0) = false ∧
    wellFormed cfg (.rxNoise [0x08, 0x0B, 0x33, 0x02, 0x08] 0) = false ∧
    wellFormed cfg (.rxNoise [0x08, 0x0B, 0x33, 0x02, 0x09] 0) = false ∧
    wellFormed cfg (.rxBadcrc [0x08, 0x0B, 0x33, 0x02, 0x08] 0) = false ∧
    wellFormed cfg (.rxBadcrc [0x08, 0x0B] 0) = false := by decide

theorem test_wf_receive_telegrams :
    wellFormed cfg (.rxTlgIdle { tel 8 11 0x18 0 [] with checksumValid := false } 0) = false ∧
    wellFormed cfg (.rxTlgIdle (tel 8 11 0xF0 0 []) 0) = false ∧
    wellFormed cfg (.rxTlgIdle (tel 8 11 0x18 0 (List.replicate 28 0)) 0) = false ∧
    wellFormed cfg (.rxTlgWaitNotOurs (tel 8 11 0x18 0 []) 0) = false ∧
    wellFormed cfg (.rxTlgWaitRead (tel 8 0 0x18 0 []) 0) = false ∧
    wellFormed cfg (.rxTlgWaitValidate (tel 8 0 0x18 0 []) 0) = false ∧
    wellFormed cfg (.rxTlgWaitWrite (tel 8 0 0x18 0 []) 0) = false ∧
    wellFormed cfg (.rxTlgWaitOther (tel 8 0 0xF0 0 []) 0) = false := by decide

theorem test_wf_transmit :
    wellFormed cfg (.txRd 8 0xF0 0 0x20) = false ∧ wellFormed cfg (.txWr 8 0xF0 0 [1]) = false ∧
    wellFormed cfg (.txWr 8 0x33 0 []) = false ∧ wellFormed cfg (.txWr 8 0x33 0 (List.replicate 28 0)) = false ∧
    wellFormed cfg (.txRaw []) = false ∧ wellFormed cfg (.txRaw (List.replicate 32 0)) = false := by decide

theorem test_wf_command_codes :
    wellFormed cfg (.cmdIllegal 0x01 0) = false ∧ wellFormed cfg (.cmdIllegal 0x0A 0) = false ∧
    wellFormed cfg (.cmdIllegal 0x00 0) = true ∧ wellFormed cfg (.cmdIllegal 0x0B 0) = true := by decide

theorem test_wf_codec :
    wellFormed cfg (.verify [0x0B]) = false ∧ wellFormed cfg (.classify (List.replicate 33 0)) = false ∧
    wellFormed cfg (.decodeHeaderS [0x10, 0x00, 0xFF, 0x00, 0x01, 0xA5, 0x06, 0x42]) = false ∧
    wellFormed cfg (.decodeHeaderS [0x08, 0x0B, 0x33, 0x02, 0x09]) = false ∧
    wellFormed cfg (.decodeHeaderX [0x08, 0x0B, 0x33, 0x02, 0x08]) = false ∧
    wellFormed cfg (.encodeRd raw4) = false ∧ wellFormed cfg (.encodeRd { rd 0x18 8 with payload := [1, 2] }) = false ∧
    wellFormed cfg (.encodeRd (rd 0xF0 8)) = false ∧
    wellFormed cfg (.encodeRd { rd 0x18 8 with type := ⟨true, 0x18⟩ }) = false := by decide

theorem test_wf_codec_write :
    wellFormed cfg (.encodeWr (rd 0x18 8)) = false ∧ wellFormed cfg (.encodeWr { wr33 with payload := [] }) = false ∧
    wellFormed cfg (.encodeWr { wr33 with payload := List.replicate 28 0 }) = false ∧
    wellFormed cfg (.encodeWr { wr33 with type := ty 0xF0 }) = false ∧
    wellFormed cfg (.encodeRaw (rd 0x18 8)) = false ∧ wellFormed cfg (.onVersion (tel 8 11 0x18 0 [])) = false ∧
    wellFormed cfg (.onVersion { tel 8 11 2 0 [] with checksumValid := false }) = false ∧
    wellFormed cfg (.dispatch (tel 8 11 0xF0 0 []) false) = false := by decide

/-! Decoding: words written out from the encodings of 30_encoding.md sections 1 to 7. -/

/-- The table of 93_implementation_defined.md G1 has one entry per byte value. -/
theorem test_crc_table : Config.defaultCrcTable.length = 256 ∧ Config.defaultCrcTable.Nodup :=
  ⟨length_defaultCrcTable, nodup_defaultCrcTable⟩

theorem test_decode_one_byte :
    (decodeEvent cfg .idle none (.rx [] 7)).toOption = some (.rxEmpty 7) ∧
    (decodeEvent cfg .wait none (.rx [0b10001011] 7)).toOption = some (.rxPoll 7) ∧
    (decodeEvent cfg .wait none (.rx [0b00000001] 7)).toOption = some (.rxWack 7) ∧
    (decodeEvent cfg .wait none (.rx [0b00000100] 7)).toOption = some (.rxWnack 7) ∧
    (decodeEvent cfg .idle none (.rx [0b00000001] 7)).toOption = some (.rxOther1 0x01 7) ∧
    (decodeEvent cfg .idle none (.rx [0b00000100] 7)).toOption = some (.rxOther1 0x04 7) ∧
    (decodeEvent cfg .wait none (.rx [0b10001101] 7)).toOption = some (.rxOther1 0x8D 7) ∧
    (decodeEvent cfg .wait none (.rx [0b00001011] 7)).toOption = some (.rxOther1 0x0B 7) := by decide

theorem test_decode_noise_and_bad :
    (decodeEvent cfg .idle none (.rx [0x08, 0x0B] 7)).toOption = some (.rxNoise [0x08, 0x0B] 7) ∧
    (decodeEvent cfg .wait none (.rx [0x08, 0x0B, 0x18, 0x00] 7)).toOption = some (.rxNoise [0x08, 0x0B, 0x18, 0x00] 7) ∧
    (decodeEvent cfg .wait none (.rx [0x08, 0x0B, 0x18, 0x00, 0x05, 0xBC] 7)).toOption =
      some (.rxBadcrc [0x08, 0x0B, 0x18, 0x00, 0x05, 0xBC] 7) ∧
    (decodeEvent cfg .idle none (.rx (List.replicate 33 0) 7)).toOption = none := by decide

/-- V-D2 as a frame bit by bit: source 0x08, destination 0x0B, type 0x18, offset 0, data 0x05, checksum 0xBD. -/
def frameD2 : Frame := [0b00001000, 0b00001011, 0b00011000, 0b00000000, 0b00000101, 0b10111101]

theorem test_decode_telegram_idle :
    (decodeEvent cfg .idle none (.rx frameD2 7)).toOption = some (.rxTlgIdle (tel 0x08 0x0B 0x18 0 [0x05]) 7) ∧
    decodeTableWord 48 0xBD0500180B08 = some (.rxTlgIdle (tel 0x08 0x0B 0x18 0 [0x05]) 0) := by decide

theorem test_decode_telegram_wait :
    (decodeEvent cfg .wait (some (rd 0x18 8)) (.rx frameD2 7)).toOption =
      some (.rxTlgWaitRead (tel 0x08 0x0B 0x18 0 [0x05]) 7) ∧
    (decodeEvent cfg .wait (some va33) (.rx frameD2 7)).toOption =
      some (.rxTlgWaitValidate (tel 0x08 0x0B 0x18 0 [0x05]) 7) ∧
    (decodeEvent cfg .wait (some wr33) (.rx frameD2 7)).toOption =
      some (.rxTlgWaitWrite (tel 0x08 0x0B 0x18 0 [0x05]) 7) ∧
    (decodeEvent cfg .wait (some raw4) (.rx frameD2 7)).toOption =
      some (.rxTlgWaitOther (tel 0x08 0x0B 0x18 0 [0x05]) 7) ∧
    (decodeEvent cfg .wait none (.rx frameD2 7)).toOption = some (.rxTlgWaitOther (tel 0x08 0x0B 0x18 0 [0x05]) 7) ∧
    (decodeEvent cfg .wait (some va33) (.rx [0x08, 0x00, 0x18, 0x00, 0x05, 0xE5] 7)).toOption =
      some (.rxTlgWaitNotOurs (tel 0x08 0x00 0x18 0 [0x05]) 7) := by decide

/-- V-E1, V-E2, V-E4, V-E5, V-E7, V-E8 as transmitted frames. -/
theorem test_decode_transmit :
    (decodeTx cfg [0b00001011, 0b10001000, 0b00011000, 0b00000000, 0b00100000, 0b11010100]).toOption =
      some (.txRd 0x08 0x18 0 0x20) ∧
    (decodeTx cfg [0x0B, 0x88, 0x33, 0x02, 0x01, 0x5D]).toOption = some (.txRd 0x08 0x33 2 0x01) ∧
    (decodeTx cfg [0b00001011, 0b00001000, 0b00110011, 0b00000010, 0b00111100, 0b00000100]).toOption =
      some (.txWr 0x08 0x33 2 [0x3C]) ∧
    (decodeTx cfg [0x0B, 0x10, 0x34, 0x00, 0x01, 0x02, 0xD9]).toOption = some (.txWr 0x10 0x34 0 [0x01, 0x02]) ∧
    (decodeTx cfg [0xFF, 0xFF]).toOption = some (.txRaw [0xFF]) ∧
    (decodeTx cfg [0x0B, 0x88, 0x02, 0x00, 0x4E]).toOption = some (.txRaw [0x0B, 0x88, 0x02, 0x00]) ∧
    (decodeTx cfg [0b00001011]).toOption = some .txAck ∧ (decodeTx cfg []).toOption = none ∧
    (decodeTx cfg [0x0C]).toOption = none ∧ (decodeTx cfg [0x0B, 0x88, 0x02, 0x00, 0x4F]).toOption = none := by decide

/-- Operands that are all different, to tell the commands' operands apart. -/
def ops : CmdOperands := ⟨ty 0x18, 0x08, true, 2, [0x3C], ty 0x33, [0xFF], 1, 12⟩

theorem test_decode_commands :
    decodeCmd 0b00000001 ops 7 = .enqRead (ty 0x18) 0x08 true 7 ∧
    decodeCmd 0b00000010 ops 7 = .enqWrite (ty 0x18) 0x08 2 [0x3C] (ty 0x33) 7 ∧
    decodeCmd 0b00000011 ops 7 = .enqRaw [0xFF] 7 ∧ decodeCmd 0b00000100 ops 7 = .busStatus 7 ∧
    decodeCmd 0b00000101 ops 7 = .regSnapshot 7 ∧ decodeCmd 0b00000110 ops 7 = .rescan 7 ∧
    decodeCmd 0b00000111 ops 7 = .scan 7 ∧ decodeCmd 0b00001000 ops 7 = .clearQueue 7 ∧
    decodeCmd 0b00001001 ops 7 = .resetCounters 7 ∧ decodeCmd 0b00001010 ops 7 = .regHandler 1 (ty 0x18) 12 7 ∧
    decodeCmd 0b00001011 ops 7 = .cmdIllegal 0x0B 7 ∧ decodeCmd 0 ops 7 = .cmdIllegal 0 7 := by decide

/-! The frame codec run on its own. -/

/-- V-C1, V-C2, V-C4. -/
theorem test_checksum :
    checksum cfg [] = 0x00 ∧ checksum cfg [0x00] = 0x00 ∧ checksum cfg [0xFF] = 0xFF ∧ checksum cfg [0x01, 0x02] = 0x00 ∧
    checksum cfg [0x0B, 0x88, 0x18, 0x00, 0x20] = 0xD4 ∧
    nextOf (exec (.checksum [0x0B, 0x88, 0x02, 0x00]) s0) = shown { s0 with result := .byte 0x4E } := by decide

/-- V-C8. -/
theorem test_checksum_more :
    checksum cfg [0x08, 0x00, 0x18, 0x00, 0x05] = 0xE5 ∧ checksum cfg [0x08, 0x0B, 0x02, 0x00, 0x7B, 0x01, 0x05] = 0x99 ∧
    checksum cfg [0x10, 0x0B, 0x34, 0x00, 0x01, 0x02] = 0x3B ∧ checksum cfg [0x0B, 0x88, 0x33, 0x00, 0x20] = 0x78 := by
  decide

/-- V-C9. -/
theorem test_verify :
    (nextOf (exec (.verify [0x0B, 0x88, 0x02, 0x00, 0x4E]) s0)).map (·.result) = some (.bit true) ∧
    (nextOf (exec (.verify [0x0B, 0x88, 0x02, 0x01, 0x4E]) s0)).map (·.result) = some (.bit false) ∧
    verify cfg [0x0A, 0x88, 0x02, 0x00, 0x4E] = false ∧ verify cfg [0x0B, 0x89, 0x02, 0x00, 0x4E] = false ∧
    verify cfg [0x0B, 0x88, 0x03, 0x00, 0x4E] = false ∧ verify cfg [0x0B, 0x88, 0x02, 0x00, 0x4F] = false := by decide

/-- V-C10, V-C11. -/
theorem test_classify :
    (nextOf (exec (.classify [0x01]) (st .wait []))).map (·.result) = some (.op .rxWack) ∧
    (nextOf (exec (.classify [0x01]) s0)).map (·.result) = some (.op .rxOther1) ∧
    classify cfg .idle [0x08, 0x0B, 0x33, 0x02, 0x08] = .rxTlgIdle ∧
    classify cfg .wait [0x08, 0x0B, 0x33, 0x02, 0x08] = .rxTlgWait ∧
    classify cfg .wait [0x08, 0x0B, 0x18] = .rxNoise := by decide

/-- V-D1, V-D3. -/
theorem test_decode_header_standard :
    (nextOf (exec (.decodeHeaderS [0x0B, 0x88, 0x02, 0x00, 0x4E]) s0)).map (·.tlg) =
      some (some ⟨0x0B, 0x08, true, ⟨false, 0x0002⟩, 0x00, [], true⟩) ∧
    (nextOf (exec (.decodeHeaderS [0x88, 0x0B, 0x18, 0x00, 0x05, 0x75]) s0)).map (·.tlg) =
      some (some ⟨0x08, 0x0B, false, ⟨false, 0x0018⟩, 0x00, [0x05], true⟩) := by decide

/-- V-X1, under the candidate layout. -/
theorem test_decode_header_extended :
    (nextOf (exec (.decodeHeaderX [0x10, 0x00, 0xFF, 0x00, 0x01, 0xA5, 0x06, 0x42]) (.resetOf cfgX))).map (·.tlg) =
      some (some ⟨0x10, 0x00, false, ⟨true, 0x01A5⟩, 0x00, [0x06], true⟩) := by decide

/-- V-E1, V-E2. -/
theorem test_encode_rd :
    (nextOf (exec (.encodeRd (rd 0x18 8)) s0)).map (·.txbuf) = some [0x0B, 0x88, 0x18, 0x00, 0x20, 0xD4] ∧
    (nextOf (exec (.encodeRd va33) s0)).map (·.txbuf) = some [0x0B, 0x88, 0x33, 0x02, 0x01, 0x5D] := by decide

/-- V-E4, V-E5. -/
theorem test_encode_wr :
    (nextOf (exec (.encodeWr wr33) s0)).map (·.txbuf) = some [0x0B, 0x08, 0x33, 0x02, 0x3C, 0x04] ∧
    (nextOf (exec (.encodeWr wr34) s0)).map (·.txbuf) = some [0x0B, 0x10, 0x34, 0x00, 0x01, 0x02, 0xD9] := by decide

/-- V-E6, V-E7, V-E8. -/
theorem test_encode_raw_ack :
    (nextOf (exec (.encodeRaw raw4) s0)).map (·.txbuf) = some [0x0B, 0x88, 0x02, 0x00, 0x4E] ∧
    (nextOf (exec (.encodeRaw { raw4 with payload := [0xFF] }) s0)).map (·.txbuf) = some [0xFF, 0xFF] ∧
    (nextOf (exec .encodeAck s0)).map (·.txbuf) = some [0x0B] := by decide

/-! The device registry. -/

/-- The boiler slot of V-R3. -/
def boiler8 : Slot := ⟨0x08, true, 0x7B, 4, true, true, 1, (1, 5)⟩

/-- V-R1. -/
theorem test_lookup :
    (nextOf (exec (.lookup .boiler 0x7B) s0)).map (·.result) = some (.record (some boilerRec)) ∧
    (nextOf (exec (.lookup .boiler 0x4D) s0)).map (·.result) = some (.record none) ∧
    (nextOf (exec (.lookup .thermostat 0x4F) s0)).map (·.result) = some (.record (some thermoRec3)) := by decide

/-- V-R2. -/
theorem test_scan_devices :
    (nextOf (exec .scanDevices s0)).map (fun s => (s.q, s.result)) =
      some ([rd 0x02 0x08, rd 0x02 0x10, rd 0x02 0x17], .full false) := by decide

/-- V-R3, V-R4. -/
theorem test_on_version :
    (nextOf (exec (.onVersion (tel 0x08 0x0B 2 0 [0x7B, 0x01, 0x05])) s0)) =
      shown { s0 with boiler := boiler8, q := [rd 0x18 8, rd 0x33 8] } ∧
    (nextOf (exec (.onVersion (tel 0x08 0x0B 2 0 [0x7B, 0x01, 0x05])) { s0 with boiler := boiler8 })) =
      shown { s0 with boiler := boiler8 } := by decide

/-- V-R6, V-R7. -/
theorem test_on_version_ignored :
    nextOf (exec (.onVersion (tel 0x08 0x0B 2 0 [0x63, 0x01, 0x01])) s0) = shown s0 ∧
    nextOf (exec (.onVersion (tel 0x08 0x0B 2 1 [0x7B, 0x01, 0x05])) s0) = shown s0 ∧
    nextOf (exec (.onVersion (tel 0x08 0x0B 2 0 [0x7B, 0x01])) s0) = shown s0 := by decide

/-- V-R5, V-R8. -/
theorem test_assign :
    nextOf (exec (.assign .thermostat thermoRec1 (2, 3)) { s0 with q := [rd 0x18 8] }) =
      shown { s0 with thermostat := ⟨0x10, true, 0x4D, 9, true, false, 1, (2, 3)⟩, q := [rd 0x18 8, rd 0x3E 0x10] } ∧
    nextOf (exec (.assign .boiler boilerRec (1, 5)) (.resetOf { cfg with preconfBoilerId := 0x09 })) =
      shown (.resetOf { cfg with preconfBoilerId := 0x09 }) := by decide

/-! The transmit state machine, one step each. -/

/-- V-S1, V-S2. -/
theorem test_poll :
    ev (.rx [0x8B] 500) s0 =
      shown { s0 with bus := { s0.bus with lastPoll := some 500 }, outbox := [.tx [0x0B]] } ∧
    seen (ev (.rx [0x8B] 500) (st .idle [rd 0x18 8])) =
      some (.wait, [rd 0x18 8], [.tx [0x0B, 0x88, 0x18, 0x00, 0x20, 0xD4]]) := by decide

/-- V-S3, V-S4. -/
theorem test_poll_wait_and_raw :
    seen (ev (.rx [0x8B] 500) (st .wait [rd 0x18 8])) = some (.wait, [rd 0x18 8], [.tx [0x0B]]) ∧
    seen (ev (.rx [0x8B] 500) (st .idle [raw4, rd 0x18 8])) =
      some (.idle, [rd 0x18 8], [.tx [0x0B, 0x88, 0x02, 0x00, 0x4E]]) := by decide

/-- V-S5. -/
theorem test_write_ack :
    ev (.rx [0x01] 0) (st .wait [wr33]) =
      shown { st .idle [va33] with bus := { s0.bus with txPackets := 1 }, outbox := [.tx [0x0B]] } := by decide

/-- V-S6. -/
theorem test_write_ack_other_head :
    ev (.rx [0x01] 0) (st .wait [rd 0x18 8]) =
      shown { st .wait [rd 0x18 8] with bus := { s0.bus with txPackets := 1 }, outbox := [.tx [0x0B]] } := by decide

/-- V-S9. -/
theorem test_write_nack :
    ev (.rx [0x04] 0) (st .wait [wr33, rd 0x18 8]) =
      shown { st .idle [rd 0x18 8] with outbox := [.tx [0x0B], .evt .writeNacked (ty 0x33) 0x08] } := by decide

/-- V-S7, V-S10. -/
theorem test_ignored :
    ev (.rx [0x08, 0x0B] 9) (st .wait [rd 0x18 8]) = shown (st .wait [rd 0x18 8]) ∧
    ev (.rx [0x08, 0x0B, 0x18, 0x00] 9) (st .wait [rd 0x18 8]) = shown (st .wait [rd 0x18 8]) ∧
    ev (.rx [0x04] 9) (st .idle [rd 0x18 8]) = shown (st .idle [rd 0x18 8]) ∧
    ev (.rx [0x0B] 9) (st .idle [rd 0x18 8]) = shown (st .idle [rd 0x18 8]) ∧
    ev (.rx [] 9) (st .idle [rd 0x18 8]) = shown (st .idle [rd 0x18 8]) := by decide

/-- V-S8, V-B7. -/
theorem test_bad_checksum :
    ev (.rx [0x08, 0x0B, 0x18, 0x00, 0x05, 0xBC] 9) (st .wait [rd 0x18 8]) =
      shown { st .wait [rd 0x18 8] with bus := { s0.bus with crcErrors := 1 } } ∧
    counts (ev (.rx [0x08, 0x0B, 0x18, 0x00, 0x05, 0xBC] 9) { s0 with bus := { s0.bus with crcErrors := 0xFFFFFFFF } }) =
      some { s0.bus with crcErrors := 0xFFFFFFFF } := by decide

/-- V-S11. -/
theorem test_idle_telegram :
    ev (.rx frameD2 700) (st .idle [rd 0x18 8]) =
      shown { st .idle [rd 0x18 8] with bus := { s0.bus with lastRx := some 700 },
                                        outbox := [.disp (df 0x08 0x0B 0x18 0 [0x05] false)] } := by decide

/-- V-S12. -/
theorem test_read_reply :
    ev (.rx frameD2 9) (st .wait [{ rd 0x18 8 with forceRefresh := true }, rd 0x19 8]) =
      shown { st .idle [rd 0x19 8] with bus := { s0.bus with lastRx := some 9, rxPackets := 1 },
                                        outbox := [.disp (df 0x08 0x0B 0x18 0 [0x05] true), .tx [0x0B]] } := by decide

/-- V-S13. -/
theorem test_read_mismatch :
    ev (.rx [0x08, 0x0B, 0x19, 0x00, 0x05, 0xB9] 9) (st .wait [rd 0x18 8]) =
      shown { st .idle [{ rd 0x18 8 with retryCount := 1 }] with
        bus := { s0.bus with lastRx := some 9, retryCount := 1 },
        outbox := [.disp (df 0x08 0x0B 0x19 0 [0x05] false), .tx [0x0B]] } := by decide

/-- V-S14. -/
theorem test_read_gave_up :
    seen (ev (.rx [0x10, 0x0B, 0x18, 0x00, 0x05, 0x24] 9) (st .wait [{ rd 0x18 8 with retryCount := 2 }])) =
      some (.idle, [], [.evt .readGaveUp (ty 0x18) 0x08, .disp (df 0x10 0x0B 0x18 0 [0x05] false), .tx [0x0B]]) := by
  decide

/-- V-S15, V-S21. -/
theorem test_not_ours :
    seen (ev (.rx [0x08, 0x00, 0x18, 0x00, 0x05, 0xE5] 9) (st .wait [rd 0x18 8, rd 0x19 8])) =
      some (.idle, [rd 0x19 8], [.disp (df 0x08 0x00 0x18 0 [0x05] false)]) ∧
    seen (ev (.rx [0x08, 0x00, 0x18, 0x00, 0x05, 0xE5] 9) (st .wait [va33])) =
      some (.idle, [], [.disp (df 0x08 0x00 0x18 0 [0x05] false)]) := by decide

/-- V-S16. -/
theorem test_validate_ok :
    ev (.rx [0x08, 0x0B, 0x33, 0x02, 0x3C, 0x2C] 9) (st .wait [va33]) =
      shown { st .idle [{ rd 0x33 8 with forceRefresh := true }] with
        bus := { s0.bus with lastRx := some 9 }, outbox := [.tx [0x0B]] } := by decide

/-- V-S17 (the restored Write keeps the saved offset and payload), V-S18. -/
theorem test_validate_mismatch :
    seen (ev (.rx [0x08, 0x0B, 0x33, 0x02, 0x00, 0x10] 9) (st .wait [va33])) =
      some (.idle, [{ wr33 with retryCount := 1, origOffset := 2, origPayload := [0x3C] }], [.tx [0x0B]]) ∧
    seen (ev (.rx [0x08, 0x0B, 0x33, 0x02, 0x00, 0x10] 9) (st .wait [{ va33 with retryCount := 2 }])) =
      some (.idle, [], [.evt .writeFailed (ty 0x33) 0x08, .tx [0x0B]]) := by decide

/-- V-S19: a reply without data is a mismatch. -/
theorem test_validate_empty_data :
    seen (ev (.rx [0x08, 0x0B, 0x33, 0x02, 0x08] 9) (st .wait [{ va33 with compareValue := 0x08 }])) =
      some (.idle, [{ wr33 with compareValue := 0x08, retryCount := 1, origOffset := 2, origPayload := [0x3C] }],
        [.tx [0x0B]]) := by decide

/-- V-S20. -/
theorem test_telegram_on_write :
    ev (.rx [0x10, 0x0B, 0x34, 0x00, 0x01, 0x02, 0x3B] 9) (st .wait [wr34]) =
      shown { st .idle [wr34] with bus := { s0.bus with lastRx := some 9 },
                                   outbox := [.evt .internalInconsistency (ty 0x34) 0x10, .tx [0x0B]] } := by decide

/-- 42_tx_state_machine.md R123: no head, and a Raw head. -/
theorem test_wait_other :
    seen (ev (.rx frameD2 9) (st .wait [])) = some (.idle, [], [.disp (df 0x08 0x0B 0x18 0 [0x05] false), .tx [0x0B]]) ∧
    seen (ev (.rx frameD2 9) (st .wait [raw4])) =
      some (.idle, [raw4], [.evt .internalInconsistency (ty 0) 0, .tx [0x0B]]) := by decide

/-- 42_tx_state_machine.md R110: the transmit formats of the heads, V-E1, V-E4, V-E6, V-E8. -/
theorem test_transmit_formats :
    seen (nextOf (exec (.txRd 0x08 0x18 0 0x20) (st .idle [rd 0x18 8]))) =
      some (.wait, [rd 0x18 8], [.tx [0x0B, 0x88, 0x18, 0x00, 0x20, 0xD4]]) ∧
    seen (nextOf (exec (.txWr 0x08 0x33 2 [0x3C]) (st .idle [wr33]))) =
      some (.wait, [wr33], [.tx [0x0B, 0x08, 0x33, 0x02, 0x3C, 0x04]]) ∧
    seen (nextOf (exec (.txRaw [0x0B, 0x88, 0x02, 0x00]) (st .idle [raw4]))) =
      some (.idle, [], [.tx [0x0B, 0x88, 0x02, 0x00, 0x4E]]) ∧
    seen (nextOf (exec .txAck s0)) = some (.idle, [], [.tx [0x0B]]) := by decide

theorem test_head_operations :
    seen (nextOf (exec .sendHead (st .idle [va33]))) = some (.wait, [va33], [.tx [0x0B, 0x88, 0x33, 0x02, 0x01, 0x5D]]) ∧
    seen (nextOf (exec .createValidate (st .idle [wr33]))) = some (.idle, [va33], []) ∧
    seen (nextOf (exec .restoreWrite (st .idle [va33]))) =
      some (.idle, [{ wr33 with origOffset := 2, origPayload := [0x3C] }], []) ∧
    (nextOf (exec (.retryOrDrop .writeFailed) (st .idle [{ va33 with retryCount := 2 }]))).map
      (fun s => (s.q, s.outbox, s.result, s.bus.retryCount)) =
      some ([], [.evt .writeFailed (ty 0x33) 0x08], .kept false, 1) := by decide

/-! The dispatcher. -/

/-- The handler table of 95_test_vectors.md part 2.4. -/
def sP : State := { s0 with handlers := [⟨.common, ty 0x18, 7⟩, ⟨.modelSpecific, ty 0x18, 8⟩, ⟨.modelSpecific, ty 2, 9⟩] }

/-- V-P1, V-P2. -/
theorem test_dispatch_gate :
    (nextOf (exec (.dispatch (tel 0x08 0 0x18 0 [5]) false) sP)).map (·.outbox) =
      some [.disp (df 0x08 0 0x18 0 [5] false), .hcall 7 .common (df 0x08 0 0x18 0 [5] false)] ∧
    (nextOf (exec (.dispatch (tel 0x08 0 0x18 0 [5]) false) { sP with boiler := boiler8 })).map (·.outbox) =
      some [.disp (df 0x08 0 0x18 0 [5] false), .hcall 7 .common (df 0x08 0 0x18 0 [5] false),
            .hcall 8 .modelSpecific (df 0x08 0 0x18 0 [5] false)] := by decide

/-- V-P4, V-P6, V-P7. -/
theorem test_dispatch_corners :
    (nextOf (exec (.dispatch (tel 0x08 0 0x18 2 [5]) false) { sP with boiler := boiler8 })).map (·.outbox) =
      some [.disp (df 0x08 0 0x18 2 [5] false)] ∧
    (nextOf (exec (.dispatch (tel 0x08 0 2 0 [0x7B, 1, 5]) false) sP)).map (fun s => (s.boiler, s.outbox)) =
      some (boiler8, [.disp (df 0x08 0 2 0 [0x7B, 1, 5] false),
                      .hcall 9 .modelSpecific (df 0x08 0 2 0 [0x7B, 1, 5] false)]) ∧
    (nextOf (exec (.dispatch (tel 0x00 0 0x18 0 [5]) false) sP)).map (·.outbox) =
      some [.disp (df 0x00 0 0x18 0 [5] false), .hcall 7 .common (df 0x00 0 0x18 0 [5] false)] := by decide

/-! The bus status. -/

/-- V-B2, V-B3. -/
theorem test_connected :
    (nextOf (exec (.connected 16149) { s0 with bus := { s0.bus with lastRx := some 1150 } })).map (·.result) =
      some (.bit true) ∧
    (nextOf (exec (.connected 16150) { s0 with bus := { s0.bus with lastRx := some 1150 } })).map (·.result) =
      some (.bit false) := by decide

/-- V-B4, V-B5. -/
theorem test_tx_capable :
    (nextOf (exec (.txCapable 6199) { s0 with bus := { s0.bus with lastPoll := some 1200 } })).map (·.result) =
      some (.bit true) ∧
    (nextOf (exec (.txCapable 6200) { s0 with bus := { s0.bus with lastPoll := some 1200 } })).map (·.result) =
      some (.bit false) := by decide

/-! The host commands. -/

/-- V-H1, V-H2. -/
theorem test_enq_read :
    seen (ev (.cmd 1 ⟨ty 0x18, 0x08, false, 0, [], ty 0, [], 0, 0⟩ 0) s0) =
      some (.idle, [rd 0x18 8], [.resp .ok .none]) ∧
    ev (.cmd 1 ⟨ty 0xF0, 0x08, false, 0, [], ty 0, [], 0, 0⟩ 0) s0 = shown { s0 with outbox := [.resp .badOperand .none] } ∧
    ev (.cmd 1 ⟨⟨true, 0x01A5⟩, 0x08, false, 0, [], ty 0, [], 0, 0⟩ 0) s0 =
      shown { s0 with outbox := [.resp .badOperand .none] } ∧
    ev (.cmd 1 ⟨ty 0x18, 0x80, false, 0, [], ty 0, [], 0, 0⟩ 0) s0 =
      shown { s0 with outbox := [.resp .badOperand .none] } := by decide

/-- V-H3. -/
theorem test_enq_read_full :
    seen (ev (.cmd 1 ⟨ty 0x18, 0x08, false, 0, [], ty 0, [], 0, 0⟩ 0) (st .idle (List.replicate 20 (rd 0x19 8)))) =
      some (.idle, List.replicate 20 (rd 0x19 8), [.resp .queueFull .none]) := by decide

/-- V-H4, V-H5. -/
theorem test_enq_write :
    seen (ev (.cmd 2 ⟨ty 0x33, 0x08, false, 2, [0x3C], ty 0x33, [], 0, 0⟩ 0) s0) =
      some (.idle, [wr33], [.resp .ok .none]) ∧
    seen (ev (.cmd 2 ⟨ty 0x33, 0x08, false, 2, [], ty 0x33, [], 0, 0⟩ 0) s0) =
      some (.idle, [], [.resp .badOperand .none]) ∧
    seen (ev (.cmd 2 ⟨ty 0x33, 0x08, false, 2, List.replicate 28 0, ty 0x33, [], 0, 0⟩ 0) s0) =
      some (.idle, [], [.resp .badOperand .none]) := by decide

/-- V-H6, and the raw request of V-S4. -/
theorem test_enq_raw :
    seen (ev (.cmd 3 { CmdOperands.zero with bytes := [0x0B, 0x88, 0x02, 0x00] } 0) s0) =
      some (.idle, [raw4], [.resp .ok .none]) ∧
    seen (ev (.cmd 3 .zero 0) s0) = some (.idle, [], [.resp .badOperand .none]) ∧
    seen (ev (.cmd 3 { CmdOperands.zero with bytes := List.replicate 32 0 } 0) s0) =
      some (.idle, [], [.resp .badOperand .none]) := by decide

/-- V-B1, V-B6. -/
theorem test_bus_status :
    ev (.cmd 4 .zero 0) s0 =
      shown { s0 with outbox := [.resp .ok (.status ⟨0, 0, 0, 0, none, none, false, false, .idle, 0⟩)] } ∧
    (ev (.cmd 4 .zero 1300) { s0 with bus := { s0.bus with lastPoll := some 1200 } }).map (·.outbox) =
      some [.resp .ok (.status ⟨0, 0, 0, 0, none, some 1200, false, true, .idle, 0⟩)] := by decide

theorem test_reg_snapshot :
    (ev (.cmd 5 .zero 0) { s0 with boiler := boiler8 }).map (·.outbox) =
      some [.resp .ok (.snapshot boiler8 ⟨0, false, 0, 0, false, false, 0, (0, 0)⟩)] := by decide

/-- V-H11. -/
theorem test_rescan :
    ev (.cmd 6 .zero 0) { st .wait [rd 0x18 8] with boiler := boiler8 } =
      shown { s0 with q := [rd 0x02 0x08, rd 0x02 0x10, rd 0x02 0x17], outbox := [.resp .ok .none] } := by decide

/-- PRG6, the SCAN event. -/
theorem test_scan :
    ev (.cmd 7 .zero 6) s0 =
      shown { s0 with q := [rd 0x02 0x08, rd 0x02 0x10, rd 0x02 0x17], outbox := [.resp .ok .none] } ∧
    (ev (.cmd 7 .zero 6) (st .idle (List.replicate 18 (rd 0x19 8)))).map (·.outbox) =
      some [.resp .queueFull .none] := by decide

/-- V-H7, V-H8. -/
theorem test_clear_and_reset_counters :
    ev (.cmd 8 .zero 0) (st .wait [rd 0x18 8, wr33]) = shown { s0 with outbox := [.resp .ok .none] } ∧
    ev (.cmd 9 .zero 0) { s0 with bus := ⟨3, 2, 1, 4, some 900, none⟩ } =
      shown { s0 with bus := ⟨0, 0, 0, 0, some 900, none⟩, outbox := [.resp .ok .none] } := by decide

/-- V-H9, V-H10. -/
theorem test_reg_handler :
    (ev (.cmd 10 { CmdOperands.zero with type := ty 0x18, cb := 12 } 0) { s0 with handlers := [⟨.common, ty 0x18, 7⟩] }).map
      (·.handlers) = some [⟨.common, ty 0x18, 12⟩] ∧
    (ev (.cmd 10 { CmdOperands.zero with scope := 1, type := ty 0x18, cb := 8 } 0)
      { s0 with handlers := [⟨.common, ty 0x18, 12⟩] }).map (·.handlers) =
        some [⟨.common, ty 0x18, 12⟩, ⟨.modelSpecific, ty 0x18, 8⟩] ∧
    (ev (.cmd 10 { CmdOperands.zero with type := ty 0x19, cb := 1 } 0)
      { s0 with handlers := (List.range 64).map fun k => ⟨.modelSpecific, ty k, 0⟩ }).map (·.outbox) =
        some [.resp .tableFull .none] := by decide

/-- V-H12. -/
theorem test_illegal_command :
    ev (.cmd 0 .zero 0) (st .wait [rd 0x18 8]) =
      shown { st .wait [rd 0x18 8] with outbox := [.resp .badOperand .none] } ∧
    ev (.cmd 0x0B .zero 0) s0 = shown { s0 with outbox := [.resp .badOperand .none] } := by decide

/-- A table word is what the next step runs, from reset. -/
theorem test_fetch_word :
    (nextOf (step (State.reset.withFetchWord 8 0x8B))).map (·.outbox) = some [.tx [0x0B]] ∧
    (nextOf (step (State.reset.withFetchWord 8 0x07))).map (·.outbox) = some [.resp .ok .none] ∧
    (nextOf (step (State.reset.withFetchWord 48 0xBD0500180B08))).map (·.bus.lastRx) = some (some 0) := by decide

/-! Witnesses: for each obligation with hypotheses, states and operands that meet them, each clause at the values where its
range begins or ends. The name says which obligation. -/

theorem test_witness_ChecksumFoldsTableThenXor :
    cfg.crcTable[(0x00 : Byte).toNat]? = some 0x00 ∧ cfg.crcTable[(0xFF : Byte).toNat]? = some 0xE7 := by decide

theorem test_witness_VerifyComparesTheLastByte : ([0x0B] : List Byte) ≠ [] := by decide

theorem test_witness_cfg_wf : cfg.WF :=
  ⟨test_crc_table.1, test_crc_table.2, by decide, by decide, by decide, by decide⟩

theorem test_witness_SingleByteChangeFailsVerify :
    cfg.WF ∧ verify cfg frameD2 = true ∧ frameD2[0] ≠ 0x09 ∧ frameD2[5] ≠ 0xBC := ⟨test_witness_cfg_wf, by decide⟩

theorem test_witness_ClassifyFollowsTheReceiveMap :
    (s0.cfg.ownId.setWidth 8 ||| 0x80 = (0x8B : Byte)) ∧ (st .wait []).txStatus = .wait ∧ s0.txStatus = .idle ∧
    ((0x00 : Byte) ≠ 0x8B ∧ (0x00 : Byte) ≠ 0x01 ∧ (0x00 : Byte) ≠ 0x04) ∧
    verify cfg [0x08, 0x0B, 0x33, 0x02, 0x09] = false ∧
    (verify cfgX [0x10, 0x00, 0xFF, 0x00, 0x67] = true ∧ decodeHeader cfgX [0x10, 0x00, 0xFF, 0x00, 0x67] = none) ∧
    (verify cfg [0x08, 0x0B, 0x33, 0x02, 0x08] = true ∧
      (decodeHeader cfg [0x08, 0x0B, 0x33, 0x02, 0x08]).isSome = true) := by decide

theorem test_witness_StandardHeaderDecodes :
    ([] : List Byte).length + 5 ≤ cfg.maxFrameLen ∧ verify cfg (0x08 :: 0x0B :: 0x33 :: 0x02 :: ([] ++ [0x08])) = true ∧
    (List.replicate 27 (0 : Byte)).length + 5 ≤ cfg.maxFrameLen ∧ (0xEF : Byte).toNat < 0xF0 ∧
    ∃ crc, verify cfg (0x08 :: 0x0B :: 0xEF :: 0x02 :: (List.replicate 27 0 ++ [crc])) = true :=
  ⟨by decide, by decide, by decide, by decide, checksum cfg (0x08 :: 0x0B :: 0xEF :: 0x02 :: List.replicate 27 0), by decide +kernel⟩

theorem test_witness_ExtendedHeaderDecodes :
    (5 ≤ [0x10, 0x00, 0xFF, 0x00, 0x67].length ∧ verify cfgX [0x10, 0x00, 0xFF, 0x00, 0x67] = true ∧
      0xF0 ≤ (0xFF : Byte).toNat) ∧ 0xF0 ≤ (0xF0 : Byte).toNat ∧
    [0x10, 0x00, 0xFF, 0x00, 0x01, 0xA5, 0x06, 0x42].length ≤ cfgX.maxFrameLen ∧
    verify cfgX [0x10, 0x00, 0xFF, 0x00, 0x01, 0xA5, 0x06, 0x42] = true ∧
    extLayout cfgX [0x10, 0x00, 0xFF, 0x00, 0x67] = none ∧
    extLayout cfgX [0x10, 0x00, 0xFF, 0x00, 0x01, 0xA5, 0x06, 0x42] = some ⟨0x01A5, 0x00, [0x06]⟩ := by decide

theorem test_witness_EncodersBuildHeaderPayloadChecksum :
    (transmittable (ty 0x00) = true ∧ transmittable (ty 0xEF) = true) ∧
    ((rd 0xEF 8).action = .read ∧ (rd 0xEF 8).payload = [0x20]) ∧ (va33.action = .validate ∧ va33.payload = [0x01]) ∧
    (wr33.action = .write ∧ 1 ≤ wr33.payload.length) ∧
    (List.replicate 27 (0 : Byte)).length ≤ cfg.maxFrameLen - 5 := by decide

theorem test_witness_RawFrameAppendsChecksum : raw4.action = .raw ∧ { raw4 with payload := [] }.action = .raw := by decide

theorem test_witness_OwnFramesDecodeToTheirRequests :
    (rd 0xEF 0x7F).readable = true ∧ va33.readable = true ∧ wr33.writable cfg = true ∧
    { wr33 with payload := List.replicate 27 0 }.writable cfg = true ∧ raw4.action = .raw := by decide

theorem test_witness_EventsDecodeToTheirOperations :
    (1 ≤ cfg.maxFrameLen ∧ wellFormed cfg (.rxTlgWaitRead (tel 8 11 0x18 0 [5]) 7) = true ∧
      selectedIn cfg .wait (some (rd 0x18 8)) (.rxTlgWaitRead (tel 8 11 0x18 0 [5]) 7) = true ∧
      encode cfg (.rxTlgWaitRead (tel 8 11 0x18 0 [5]) 7) = some (.event (.rx frameD2 7))) ∧
    (wellFormed cfg (.cmdIllegal 0xFF 7) = true ∧ selectedIn cfg .idle none (.cmdIllegal 0xFF 7) = true ∧
      encode cfg (.cmdIllegal 0xFF 7) = some (.event (.cmd 0xFF .zero 7))) := by decide

theorem test_witness_TransmittedFramesDecodeToTheirFormats :
    6 ≤ cfg.maxFrameLen ∧ (wellFormed cfg (.txRaw [0xFF]) = true ∧ encode cfg (.txRaw [0xFF]) = some (.tx [0xFF, 0xFF]) ∧
      headerForm cfg [0xFF] = none) ∧
    (wellFormed cfg (.txRd 0x08 0x18 0 0x20) = true ∧
      encode cfg (.txRd 0x08 0x18 0 0x20) = some (.tx [0x0B, 0x88, 0x18, 0x00, 0x20, 0xD4])) ∧
    (wellFormed cfg (.txWr 0x08 0x33 2 [0x3C]) = true ∧
      encode cfg (.txWr 0x08 0x33 2 [0x3C]) = some (.tx [0x0B, 0x08, 0x33, 0x02, 0x3C, 0x04])) := by decide

theorem test_witness_DecoderSelectsOnlyWhatApplies :
    decodeEvent cfg .idle none (.rx frameD2 7) = .ok (.rxTlgIdle (tel 8 11 0x18 0 [5]) 7) ∧
    decodeEvent cfg .idle none (.rx [] 7) = .ok (.rxEmpty 7) := ⟨by rfl, by rfl⟩

theorem test_witness_AssignActsOnceOnAFreeOrMatchingSlot :
    { s0 with boiler := boiler8 }.boiler.matched = true ∧
    (s0.boiler.matched = false ∧ s0.boiler.id = s0.cfg.idNone) ∧
    ((Slot.reset 0x08).matched = false ∧ (Slot.reset 0x08).id = boilerRec.typeId) ∧
    ((Slot.reset 0x09).id ≠ s0.cfg.idNone ∧ (Slot.reset 0x09).id ≠ boilerRec.typeId) := by decide

theorem test_witness_VersionTelegramTriesBoilerThenThermostat :
    ((tel 8 0 2 0 [0x7B, 1]).wellFormed cfg = true ∧ (tel 8 0 2 0 [0x7B, 1]).type = ⟨false, 0x0002⟩ ∧
      versionParse cfg 0 [0x7B, 1] = none) ∧
    (versionParse cfg 0 [0x7B, 1, 5] = some (0x7B, (1, 5)) ∧ lookup cfg.boilerTable 0x7B = some boilerRec) ∧
    (versionParse cfg 0 [0x4D, 2, 3] = some (0x4D, (2, 3)) ∧ lookup cfg.boilerTable 0x4D = none ∧
      lookup cfg.thermostatTable 0x4D = some thermoRec1) ∧
    (versionParse cfg 0 [0x63, 1, 1] = some (0x63, (1, 1)) ∧ lookup cfg.boilerTable 0x63 = none ∧
      lookup cfg.thermostatTable 0x63 = none) := by decide

theorem test_witness_RepeatedVersionTelegramIsANoOp :
    exec (.onVersion (tel 8 0 2 0 [0x7B, 1, 5])) s0 =
      .next { s0 with boiler := boiler8, q := [rd 0x18 8, rd 0x33 8] } := by rfl

theorem test_witness_OwnPollIsAnswered :
    s0.q = [] ∧ (st .wait [rd 0x18 8]).txStatus = .wait ∧
    ((st .idle [rd 0x18 8]).q = rd 0x18 8 :: [] ∧ (st .idle [rd 0x18 8]).txStatus = .idle) := by decide

theorem test_witness_HeadIsSentByItsAction :
    (st .idle [rd 0x18 8]).txStatus = .idle ∧ (rd 0x18 8).action = .read ∧ va33.action = .validate ∧
    wr33.action = .write ∧ raw4.action = .raw ∧ (st .idle [raw4, wr33]).q = raw4 :: [wr33] := by decide

theorem test_witness_TransmitFormatsSendTheHead :
    (st .idle [va33]).txStatus = .idle ∧ (st .idle [va33]).q = va33 :: [] ∧ va33.payload = [0x01] ∧
    (rd 0x18 8).payload = [0x20] ∧ wr33.action = .write ∧ raw4.action = .raw := by decide

theorem test_witness_WriteAckConvertsTheWrite :
    (st .wait [wr33, rd 0x18 8]).txStatus = .wait ∧ (st .wait [wr33, rd 0x18 8]).q = wr33 :: [rd 0x18 8] ∧
    wr33.action = .write ∧ (st .wait [rd 0x18 8]).q = rd 0x18 8 :: [] ∧ (rd 0x18 8).action ≠ .write ∧
    (st .wait []).q = [] := by decide

theorem test_witness_WriteNackDropsTheHead :
    (st .wait [wr33]).txStatus = .wait ∧ (st .wait [wr33]).q = wr33 :: [] ∧ (st .wait []).txStatus = .wait ∧
    (st .wait []).q = [] := by decide

theorem test_witness_NoiseMovesNoCounter :
    (2 ≤ ([0x08, 0x0B] : Frame).length) ∧ ([0x08, 0x0B, 0x18, 0x00] : Frame).length ≤ 4 ∧
    5 ≤ ([0x10, 0x00, 0xFF, 0x00, 0x67] : Frame).length := by decide

/-- The frame of V-S8. -/
def frameBad : Frame := [0x08, 0x0B, 0x18, 0x00, 0x05, 0xBC]

theorem test_witness_BadChecksumOnlyCounts :
    ((1 : Count).toNat = min ((0 : Count).toNat + 1) (2 ^ 32 - 1)) ∧
    ((0xFFFFFFFF : Count).toNat = min ((0xFFFFFFFF : Count).toNat + 1) (2 ^ 32 - 1)) ∧
    { s0 with inbox := [.rx frameBad 9] }.inbox = .rx frameBad 9 :: [] ∧ 5 ≤ frameBad.length ∧
    frameBad.length ≤ s0.cfg.maxFrameLen ∧ verify s0.cfg frameBad = false := by decide

theorem test_witness_IdleTelegramIsOnlyDispatched :
    s0.txStatus = .idle ∧ (tel 8 11 0x18 0 [5]).type ≠ ⟨false, 0x0002⟩ := by decide

theorem test_witness_ForeignTelegramDropsTheHead :
    (st .wait [rd 0x18 8]).txStatus = .wait ∧ (st .wait [rd 0x18 8]).q = rd 0x18 8 :: [] ∧
    (tel 8 0 0x18 0 [5]).dest ≠ s0.cfg.ownId := by decide

theorem test_witness_MatchingReplyCompletesTheRead :
    (st .wait [rd 0x18 8]).txStatus = .wait ∧ (st .wait [rd 0x18 8]).q = rd 0x18 8 :: [] ∧ (rd 0x18 8).action = .read ∧
    (tel 8 11 0x18 0 [5]).dest = s0.cfg.ownId ∧ (tel 8 11 0x18 0 [5]).src = (rd 0x18 8).dest ∧
    (tel 8 11 0x18 0 [5]).type = (rd 0x18 8).type := by decide

theorem test_witness_MismatchingReplyRetriesOrGivesUp :
    (st .wait [rd 0x18 8]).txStatus = .wait ∧ (rd 0x18 8).action = .read ∧ (tel 8 11 0x19 0 [5]).dest = s0.cfg.ownId ∧
    (tel 8 11 0x19 0 [5]).type ≠ (rd 0x18 8).type ∧ (tel 16 11 0x18 0 [5]).src ≠ (rd 0x18 8).dest ∧
    { rd 0x18 8 with retryCount := 1 }.retryCount.toNat < 2 ∧ { rd 0x18 8 with retryCount := 2 }.retryCount.toNat = 2 := by
  decide

theorem test_witness_RetryOrDropBoundsTheExchange :
    (st .idle [va33]).q = va33 :: [] ∧ va33.retryCount.toNat < 2 ∧ { va33 with retryCount := 1 }.retryCount.toNat < 2 ∧
    { va33 with retryCount := 2 }.retryCount.toNat = 2 := by decide

theorem test_witness_ValidatedWriteEnqueuesPostRead :
    (st .wait (va33 :: List.replicate 19 (rd 0x18 8))).txStatus = .wait ∧
    (st .wait (va33 :: List.replicate 19 (rd 0x18 8))).q = va33 :: List.replicate 19 (rd 0x18 8) ∧
    va33.action = .validate ∧ (tel 8 11 0x33 2 [0x3C]).dest = s0.cfg.ownId ∧
    (List.replicate 19 (rd 0x18 8)).length < s0.cfg.queueDepth ∧
    (tel 8 11 0x33 2 [0x3C]).data = va33.compareValue :: [] := by decide

theorem test_witness_FailedValidateRestoresTheWriteOrFails :
    (st .wait [va33]).txStatus = .wait ∧ (st .wait [va33]).q = va33 :: [] ∧ va33.action = .validate ∧
    (tel 8 11 0x33 2 [0x00]).dest = s0.cfg.ownId ∧ (∀ more, (tel 8 11 0x33 2 [0x00]).data ≠ va33.compareValue :: more) ∧
    (∀ more, (tel 8 11 0x33 2 []).data ≠ va33.compareValue :: more) ∧
    { va33 with retryCount := 1 }.retryCount.toNat < 2 ∧ { va33 with retryCount := 2 }.retryCount.toNat = 2 :=
  ⟨by decide, by decide, by decide, by decide, fun _ h => absurd (List.cons.inj h).1 (by decide),
    by simp [tel], by decide, by decide⟩

theorem test_witness_TelegramOnWriteHeadIsOnlyReported :
    (st .wait [wr34]).txStatus = .wait ∧ (st .wait [wr34]).q = wr34 :: [] ∧ wr34.action = .write ∧
    (tel 16 11 0x34 0 [1, 2]).dest = s0.cfg.ownId := by decide

theorem test_witness_UnreachableWaitCasesAreDefined :
    (st .wait []).txStatus = .wait ∧ (st .wait []).q = [] ∧ (tel 8 11 0x18 0 [5]).dest = s0.cfg.ownId ∧
    (tel 8 0 0x18 0 [5]).dest ≠ s0.cfg.ownId ∧ (st .wait [raw4]).q = raw4 :: [] ∧ raw4.action = .raw := by decide

theorem test_witness_CreateValidateConvertsTheHead :
    (st .idle [wr33]).q = wr33 :: [] ∧ wr33.action = .write := by decide

theorem test_witness_RestoreWriteUndoesCreateValidate :
    (st .idle [va33]).q = va33 :: [] ∧ va33.action = .validate ∧ (st .idle [wr34]).q = wr34 :: [] ∧
    wr34.action = .write := by decide

theorem test_witness_DispatchGatesHandlers :
    (tel 8 0 2 0 [0x7B, 1, 5]).type = ⟨false, 0x0002⟩ ∧ (tel 8 0 0x18 0 [5]).type ≠ ⟨false, 0x0002⟩ ∧
    (tel 8 0 0x18 1 [5]).offset ≠ 0 ∧ (tel 8 0 0x18 0 [5]).offset = 0 := by decide

theorem test_witness_PartialTelegramCallsNoHandler :
    (tel 8 0 0x18 1 [5]).offset ≠ 0 ∧ (tel 8 0 2 0xFF [5]).offset ≠ 0 := by decide

theorem test_witness_UnknownTypeIsIgnored :
    (sP = if (tel 8 0 0x2A 0 [5]).type = ⟨false, 0x0002⟩ then onVersion (tel 8 0 0x2A 0 [5]) sP else sP) ∧
    (∀ e ∈ sP.handlers, e.type = (tel 8 0 0x2A 0 [5]).type → e.scope = .modelSpecific ∧
      (sP.boiler.id = s0.cfg.idNone ∨ (tel 8 0 0x2A 0 [5]).src ≠ sP.boiler.id) ∧
      (sP.thermostat.id = s0.cfg.idNone ∨ (tel 8 0 0x2A 0 [5]).src ≠ sP.thermostat.id)) ∧
    (∀ e ∈ [(⟨.modelSpecific, ty 0x18, 8⟩ : Handler)], e.type = (tel 9 0 0x18 0 [5]).type → e.scope = .modelSpecific ∧
      (boiler8.id = s0.cfg.idNone ∨ (tel 9 0 0x18 0 [5]).src ≠ boiler8.id) ∧
      (s0.thermostat.id = s0.cfg.idNone ∨ (tel 9 0 0x18 0 [5]).src ≠ s0.thermostat.id)) :=
  ⟨by rfl, by decide, by decide⟩

/-- `bus` with the timestamps of V-B2 and V-B4. -/
def busT : BusStatus := ⟨0, 0, 0, 0, some 1150, some 1200⟩

theorem test_witness_LivenessPredicatesAreAgeTests :
    (s0.bus.lastRx = none ∧ s0.bus.lastPoll = none) ∧ busT.lastRx = some 1150 ∧ busT.lastPoll = some 1200 ∧
    ((1150 : Time).toNat ≤ (16149 : Time).toNat ∧ (16149 : Time).toNat < (1150 : Time).toNat + 15000) ∧
    ((1150 : Time).toNat ≤ (16150 : Time).toNat ∧ ¬ (16150 : Time).toNat < (1150 : Time).toNat + 15000) ∧
    ((1200 : Time).toNat ≤ (6199 : Time).toNat ∧ (6199 : Time).toNat < (1200 : Time).toNat + 5000) ∧
    ((1200 : Time).toNat ≤ (6200 : Time).toNat ∧ ¬ (6200 : Time).toNat < (1200 : Time).toNat + 5000) ∧
    (1149 : Time).toNat < (1150 : Time).toNat := by decide

theorem test_witness_EnqReadAppendsOrRefuses :
    (0xEF < (ty 0xF0).val.toNat ∧ (⟨true, 0⟩ : TypeId).ext = true ∧ 0x7F < (0x80 : Byte).toNat) ∧
    ((ty 0xEF).ext = false ∧ (ty 0xEF).val.toNat ≤ 0xEF ∧ (0x7F : Byte).toNat ≤ 0x7F) ∧
    (st .idle (List.replicate 19 wr33)).q.length < s0.cfg.queueDepth ∧
    s0.cfg.queueDepth ≤ (st .idle (List.replicate 20 wr33)).q.length := by decide

theorem test_witness_EnqWriteAppendsOrRefuses :
    s0.cfg.maxFrameLen - 5 < (List.replicate 28 (0 : Byte)).length ∧
    ((List.replicate 27 (0 : Byte)).length ≤ s0.cfg.maxFrameLen - 5 ∧
      List.replicate 27 (0 : Byte) = 0 :: List.replicate 26 0) ∧
    ((ty 0x33).ext = false ∧ (ty 0x33).val.toNat ≤ 0xEF ∧ (0x08 : Byte).toNat ≤ 0x7F ∧ ([0x3C] : List Byte) = 0x3C :: []) ∧
    (st .idle (List.replicate 19 wr33)).q.length < s0.cfg.queueDepth ∧
    s0.cfg.queueDepth ≤ (st .idle (List.replicate 20 wr33)).q.length := by decide

theorem test_witness_EnqRawAppendsOrRefuses :
    s0.cfg.maxFrameLen - 1 < (List.replicate 32 (0 : Byte)).length ∧
    (List.replicate 31 (0 : Byte)).length ≤ s0.cfg.maxFrameLen - 1 ∧ 1 ≤ ([0xFF] : List Byte).length ∧
    (st .idle (List.replicate 19 wr33)).q.length < s0.cfg.queueDepth ∧
    s0.cfg.queueDepth ≤ (st .idle (List.replicate 20 wr33)).q.length := by decide

theorem test_witness_HandlerRegistrationReplacesOrAppends :
    sP.handlers = [⟨.common, ty 0x18, 7⟩] ++ ⟨.modelSpecific, ty 0x18, 8⟩ :: [⟨.modelSpecific, ty 2, 9⟩] ∧
    (∀ x ∈ [(⟨.common, ty 0x18, 7⟩ : Handler)], ¬(x.scope = .modelSpecific ∧ x.type = ty 0x18)) ∧
    (∀ x ∈ sP.handlers, ¬(x.scope = .common ∧ x.type = ty 0x19)) ∧ sP.handlers.length < sP.cfg.handlerSlots ∧
    ((∀ x ∈ (List.range 64).map fun k => (⟨.modelSpecific, ty k, 0⟩ : Handler), ¬(x.scope = .common ∧ x.type = ty 0x19)) ∧
      s0.cfg.handlerSlots ≤ ((List.range 64).map fun k => (⟨.modelSpecific, ty k, 0⟩ : Handler)).length) ∧
    1 < (2 : Byte).toNat := by decide

/-- A state in which every clause of the invariant has something to say: the head in flight, a handler. -/
def sInv : State :=
  { st .wait [wr33, rd 0x18 8] with handlers := [⟨.common, ty 0x18, 7⟩], inbox := [.rx [0x01] 5, .rx [0x8B] 6] }

theorem test_witness_invariant : Inv sInv where
  cfg_ok := test_witness_cfg_wf
  requests_ok := by
    intro r h
    have h' : r = wr33 ∨ r = rd 0x18 8 := by simpa [sInv, st] using h
    obtain rfl | rfl := h'
    · exact ⟨by decide, by decide, ⟨by decide, by decide⟩, by decide⟩
    · exact ⟨by decide, by decide, rfl, by decide⟩
  queue_bound := by decide
  in_flight := fun _ => ⟨wr33, [rd 0x18 8], rfl, by decide⟩
  handler_bound := by decide
  handler_keys := by decide

theorem test_witness_ResetMeetsTheInvariant : cfg.WF := test_witness_cfg_wf

theorem test_witness_StepKeepsTheInvariant : Inv sInv ∧ ∃ s', step sInv = .next s' := ⟨test_witness_invariant, _, by rfl⟩

theorem test_witness_TransmittedFramesFit :
    Inv sInv ∧ ∃ s', step sInv = .next s' ∧ [0x0B] ∈ txFrames (emitted sInv s') :=
  ⟨test_witness_invariant, _, by rfl, by decide⟩

theorem test_witness_StepRunsTheDecodedOperation :
    (s0.inbox = [] ∧ sInv.inbox = .rx [0x01] 5 :: [.rx [0x8B] 6]) ∧
    decodeEvent sInv.cfg sInv.txStatus sInv.q.head? (.rx [0x01] 5) = .ok (.rxWack 5) ∧
    (∃ u, exec (.rxWack 5) { sInv with inbox := [.rx [0x8B] 6], rxbuf := [0x01] } = .next u) ∧
    decodeEvent s0.cfg s0.txStatus s0.q.head? (.cmd 0x08 .zero 5) = .ok (.clearQueue 5) ∧
    (∃ u, exec (.clearQueue 5) { s0 with inbox := [] } = .next u) :=
  ⟨by decide, by rfl, ⟨_, by rfl⟩, by rfl, ⟨_, by rfl⟩⟩

theorem test_witness_StepIsTotalOnLegalFrames :
    (List.replicate 32 (0 : Byte)).length ≤ s0.cfg.maxFrameLen ∧
    s0.cfg.maxFrameLen < (List.replicate 33 (0 : Byte)).length := by decide

theorem test_witness_StatusMovesOnlyAsTheTableSays :
    (∃ s s', step s = .next s' ∧ s.txStatus = .idle ∧ s'.txStatus = .wait) ∧
    (∃ s s', step s = .next s' ∧ s.txStatus = .wait ∧ s'.txStatus = .idle) :=
  ⟨⟨{ st .idle [rd 0x18 8] with inbox := [.rx [0x8B] 5] }, _, by rfl, by rfl, by rfl⟩,
    ⟨sInv, _, by rfl, by rfl, by rfl⟩⟩

/-- One step for each outcome: the head replaced in place, the head removed, a request added at the tail. -/
theorem test_witness_QueueIsFifoWithHeadReinsertion :
    (∃ s', step sInv = .next s' ∧ s'.q = va33 :: [rd 0x18 8]) ∧
    (∃ s s', step s = .next s' ∧ s.q = rd 0x18 8 :: [wr33] ∧ s'.q = [wr33]) ∧
    (∃ s s', step s = .next s' ∧ s.q = [wr33] ∧ s'.q = [wr33] ++ [raw4]) :=
  ⟨⟨_, by rfl, by rfl⟩, ⟨{ st .wait [rd 0x18 8, wr33] with inbox := [.rx frameD2 5] }, _, by rfl, by rfl, by rfl⟩,
    ⟨{ st .idle [wr33] with inbox := [.cmd 0x03 ⟨ty 0, 0, false, 0, [], ty 0, [0x0B, 0x88, 0x02, 0x00], 0, 0⟩ 5] }, _,
      by rfl, by rfl, by rfl⟩⟩

theorem test_witness_CommandsAnswerExactlyOnce :
    { s0 with inbox := [.cmd 0x03 .zero 5] }.inbox = .cmd 0x03 .zero 5 :: [] ∧ (0x03 : Byte) ≠ 0x06 ∧
    (0x03 : Byte) ≠ 0x07 ∧ (0x03 : Byte) ≠ 0x08 ∧ RespCode.badOperand ≠ .ok := by decide

theorem test_witness_EveryOwnPollIsAnsweredByOneFrame :
    1 ≤ s0.cfg.maxFrameLen ∧ { s0 with inbox := [.rx [0x8B] 5] }.inbox =
      .rx [s0.cfg.ownId.setWidth 8 ||| 0x80] 5 :: [] := by decide

theorem test_witness_CountersAndOutputsOnlyGrow : ∃ s', step sInv = .next s' ∧ s'.bus.txPackets = 1 := ⟨_, by rfl, by rfl⟩

theorem test_witness_OnlyTheirEventsWriteTimestampsAndHandlers :
    (∃ s s', step s = .next s' ∧ s'.bus.lastPoll ≠ s.bus.lastPoll) ∧
    (∃ s s', step s = .next s' ∧ s'.bus.lastRx ≠ s.bus.lastRx) ∧ (∃ s s', step s = .next s' ∧ s'.handlers ≠ s.handlers) :=
  ⟨⟨{ s0 with inbox := [.rx [0x8B] 5] }, _, by rfl, by decide⟩,
    ⟨{ s0 with inbox := [.rx frameD2 5] }, _, by rfl, by decide⟩,
    ⟨{ s0 with inbox := [.cmd 0x0A .zero 5] }, _, by rfl, by decide⟩⟩

theorem test_witness_SlotsAreWrittenOnlyByVersionOrRescan :
    (∃ s s', step s = .next s' ∧ slotOf .boiler s' ≠ slotOf .boiler s ∧ s'.boiler.matched = true) ∧
    (∃ s s', step s = .next s' ∧ slotOf .boiler s' ≠ slotOf .boiler s ∧ s'.boiler.matched = false) :=
  ⟨⟨{ s0 with inbox := [.rx [0x08, 0x00, 0x02, 0x00, 0x7B, 0x01, 0x05, 0xE0] 5] }, _, by rfl, by decide, by rfl⟩,
    ⟨{ s0 with boiler := boiler8, inbox := [.cmd 0x06 .zero 5] }, _, by rfl, by decide, by rfl⟩⟩

end Sys2Proof.Tests
end

/-! PROOFS. O50: every step keeps the invariant (10_state.md R19, R22, R23, R29; 60_exceptions.md R191). In three layers: which
requests are `Ok`; two rules that build `Inv` of a changed state (the queue grew at the tail with the status kept, or the
engine is Idle with a legal queue); one lemma per shared operation. `step_cases`, `rx_cases` and `cmd_cases` then say which
of these operations a step is. -/

namespace Sys2Proof

open Machine

/-! ### Requests -/

/-- A Read of a transmittable type (45_host_commands.md R161) carries one count byte and a fresh retry count. -/
theorem readRequest_ok {type : TypeId} (c : Config) (dest : DevId) (fr : Bool) (h : transmittable type = true) :
    (readRequest c type dest fr).Ok c :=
  ⟨h, rfl, rfl, Nat.zero_le _⟩

/-- The operand check of ENQ_WRITE (R162) gives the bounds of the Write it builds. -/
theorem writeRequest_ok {c : Config} {type : TypeId} {dest : Byte} {payload : List Byte} (d : DevId) (offset : Offset)
    (vt : TypeId) (h : enqWriteOk c type dest payload = true) : (writeRequest type d offset payload vt).Ok c := by
  simp only [enqWriteOk, Bool.and_eq_true, decide_eq_true_eq] at h
  obtain ⟨⟨⟨htype, -⟩, hpos⟩, hmax⟩ := h
  exact ⟨htype, htype, ⟨hpos, hmax⟩, Nat.zero_le _⟩

/-- The operand check of ENQ_RAW (R163) gives the bounds of the Raw request it builds. -/
theorem rawRequest_ok {c : Config} {bytes : List Byte} (h : enqRawOk c bytes = true) : (rawRequest bytes).Ok c := by
  simp only [enqRawOk, Bool.and_eq_true, decide_eq_true_eq] at h
  obtain ⟨hpos, hmax⟩ := h
  have hfit : bytes.length + 1 ≤ c.maxFrameLen := by omega
  exact ⟨rfl, rfl, ⟨hpos, hfit⟩, Nat.zero_le _⟩

/-- A Write becomes a Validate that keeps the Write's payload (42_tx_state_machine.md R125). -/
theorem toValidate_ok {c : Config} {r : TxRequest} (h : r.Ok c) (hw : r.action = .write) : (toValidate r).Ok c := by
  have hpayload := h.payload_ok
  simp only [TxRequest.payloadOk, hw] at hpayload
  exact ⟨h.type_ok, h.postReadType_ok, ⟨rfl, hpayload⟩, h.retry_ok⟩

/-- A Validate becomes a Write with the payload it kept (R126). -/
theorem toWrite_ok {c : Config} {r : TxRequest} (h : r.Ok c) (hv : r.action = .validate) : (toWrite r).Ok c := by
  have hpayload := h.payload_ok
  simp only [TxRequest.payloadOk, hv] at hpayload
  exact ⟨h.type_ok, h.postReadType_ok, hpayload.2, h.retry_ok⟩

/-- The payload bounds do not look at the retry count. -/
theorem TxRequest.Ok.setRetryCount {c : Config} {r : TxRequest} {n : RetryCnt} (h : r.Ok c) (hn : n.toNat ≤ maxRetries) :
    ({ r with retryCount := n } : TxRequest).Ok c :=
  ⟨h.type_ok, h.postReadType_ok, h.payload_ok, hn⟩

/-- The reads of a scan are reads of the Version type (41_device_registry.md R100). -/
theorem scanRequests_ok (c : Config) : ∀ r ∈ scanRequests c, r.Ok c := by
  intro r hr
  obtain ⟨d, -, rfl⟩ := List.mem_map.1 hr
  exact readRequest_ok c d false rfl

/-! ### The queue -/

/-- What the invariant says of the queue alone: legal requests, within the depth (10_state.md R19, R22). -/
structure QueueOk (c : Config) (q : List TxRequest) : Prop where
  requests_ok : ∀ r ∈ q, r.Ok c
  bound : q.length ≤ c.queueDepth

theorem QueueOk.nil (c : Config) : QueueOk c [] := ⟨by simp, Nat.zero_le _⟩

theorem QueueOk.head_ok {c : Config} {r : TxRequest} {rest : List TxRequest} (h : QueueOk c (r :: rest)) : r.Ok c :=
  h.requests_ok r List.mem_cons_self

theorem QueueOk.tail {c : Config} {q : List TxRequest} (h : QueueOk c q) : QueueOk c q.tail :=
  ⟨fun r hr => h.requests_ok r (List.mem_of_mem_tail hr), by
    rw [List.length_tail]; exact (Nat.sub_le _ _).trans h.bound⟩

theorem QueueOk.setHead {c : Config} {r r' : TxRequest} {rest : List TxRequest} (h : QueueOk c (r :: rest))
    (hr : r'.Ok c) : QueueOk c (r' :: rest) :=
  ⟨List.forall_mem_cons.2 ⟨hr, h.tail.requests_ok⟩, h.bound⟩

/-- PushTail in sequence keeps a queue legal: it takes only what fits (20_memory.md R45). -/
theorem QueueOk.append_take {c : Config} {q new : List TxRequest} (h : QueueOk c q) (hnew : ∀ r ∈ new, r.Ok c) :
    QueueOk c (q ++ new.take (c.queueDepth - q.length)) where
  requests_ok := List.forall_mem_append.2 ⟨h.requests_ok, fun r hr => hnew r (List.mem_of_mem_take hr)⟩
  bound := by
    have := h.bound
    simp only [List.length_append, List.length_take]; omega

/-! ### Building the invariant of a changed state -/

theorem Inv.queueOk {s : State} (h : Inv s) : QueueOk s.cfg s.q := ⟨h.requests_ok, h.queue_bound⟩

theorem inFlight_of_idle {s : State} (h : s.txStatus = .idle) : InFlight s := fun hw => by simp [h] at hw

/-- Another queue and status, everything else of the invariant as it was. -/
theorem Inv.of_queue {s u : State} (h : Inv s) (hcfg : u.cfg = s.cfg) (hhandlers : u.handlers = s.handlers)
    (hq : QueueOk s.cfg u.q) (hflight : InFlight u) : Inv u where
  cfg_ok := hcfg ▸ h.cfg_ok
  requests_ok := hcfg ▸ hq.requests_ok
  queue_bound := hcfg ▸ hq.bound
  in_flight := hflight
  handler_bound := by rw [hcfg, hhandlers]; exact h.handler_bound
  handler_keys := hhandlers ▸ h.handler_keys

/-- The status is Idle: any legal queue will do. -/
theorem Inv.of_idle {s u : State} (h : Inv s) (hcfg : u.cfg = s.cfg) (hhandlers : u.handlers = s.handlers)
    (hq : QueueOk s.cfg u.q) (hidle : u.txStatus = .idle) : Inv u :=
  h.of_queue hcfg hhandlers hq (inFlight_of_idle hidle)

/-- The status is kept and the queue only grew at the tail: the head in flight is still there. -/
theorem Inv.of_append {s u : State} {new : List TxRequest} (h : Inv s) (hcfg : u.cfg = s.cfg)
    (hhandlers : u.handlers = s.handlers) (hstatus : u.txStatus = s.txStatus) (hq : u.q = s.q ++ new)
    (hok : QueueOk s.cfg u.q) : Inv u := by
  refine h.of_queue hcfg hhandlers hok fun hwait => ?_
  obtain ⟨r, rest, hs, hr⟩ := h.in_flight (hstatus ▸ hwait)
  exact ⟨r, rest ++ new, by rw [hq, hs, List.cons_append], hr⟩

/-- What the invariant does not look at may change. -/
theorem Inv.congr {s u : State} (h : Inv s) (hcfg : u.cfg = s.cfg) (hhandlers : u.handlers = s.handlers)
    (hstatus : u.txStatus = s.txStatus) (hq : u.q = s.q) : Inv u :=
  h.of_append (new := []) hcfg hhandlers hstatus (by rw [hq, List.append_nil]) (hq ▸ h.queueOk)

/-! ### The shared operations keep the invariant -/

theorem setBus_keeps_inv {s : State} (b : BusStatus) (h : Inv s) : Inv (setBus b s) := h.congr rfl rfl rfl rfl

theorem pollAck_keeps_inv {s : State} (h : Inv s) : Inv (pollAck s) := h.congr rfl rfl rfl rfl

theorem respond_keeps_inv {s : State} (code : RespCode) (v : RespValues) (h : Inv s) : Inv (respond code v s) :=
  h.congr rfl rfl rfl rfl

theorem endEvent_keeps_inv {s : State} (h : Inv s) : Inv (endEvent s) := h.congr rfl rfl rfl rfl

theorem telegramPrelude_keeps_inv {s : State} (t : Telegram) (now : Time) (h : Inv s) : Inv (telegramPrelude t now s) :=
  h.congr rfl rfl rfl rfl

theorem evtHead_keeps_inv {s : State} (c : Condition) (h : Inv s) : Inv (evtHead c s) :=
  h.congr (by simp) (by simp) (by simp) (by simp)

/-- The first line of RX_TLG_WAIT sets Idle, so the head need not be in flight any more (42_tx_state_machine.md R118). -/
theorem waitPrelude_keeps_inv {s : State} (t : Telegram) (now : Time) (h : Inv s) : Inv (waitPrelude t now s) :=
  h.of_idle rfl rfl h.queueOk rfl

/-- The head may be removed where it is not waited for. -/
theorem popHead_keeps_inv {s : State} (h : Inv s) (hidle : s.txStatus = .idle) : Inv (popHead s) :=
  h.of_idle rfl rfl h.queueOk.tail hidle

theorem clearQueue_keeps_inv {s : State} (h : Inv s) : Inv (clearQueue s) := h.of_idle rfl rfl (.nil _) rfl

theorem pushTail_keeps_inv {s : State} {r : TxRequest} (h : Inv s) (hr : r.Ok s.cfg) : Inv (pushTail r s).2 := by
  by_cases hroom : s.q.length < s.cfg.queueDepth
  · rw [pushTail_of_room r s hroom]
    refine h.of_append rfl rfl rfl rfl ⟨?_, ?_⟩
    · exact List.forall_mem_append.2 ⟨h.requests_ok, by simpa using hr⟩
    · simpa using hroom
  · rw [pushTail_of_full r s (Nat.not_lt.1 hroom)]
    exact h

theorem pushAll_keeps_inv {s : State} {rs : List TxRequest} (h : Inv s) (hrs : ∀ r ∈ rs, r.Ok s.cfg) :
    Inv (pushAll rs s).2 := by
  rw [pushAll_eq]
  exact h.of_append rfl rfl rfl rfl (h.queueOk.append_take hrs)

theorem scanDevices_keeps_inv {s : State} (h : Inv s) : Inv (scanDevices s).2 :=
  pushAll_keeps_inv h (scanRequests_ok s.cfg)

theorem answerPush_keeps_inv {p : Bool × State} (h : Inv p.2) : Inv (answerPush p) := by
  rw [answerPush_eq]
  exact respond_keeps_inv _ _ h

/-- DISPATCH adds only reads of an initial burst, which R8 requires to be transmittable (41_device_registry.md R104). -/
theorem dispatch_keeps_inv {s : State} (t : Telegram) (refresh : Bool) (h : Inv s) : Inv (dispatch t refresh s) := by
  obtain ⟨new, hq, hnew⟩ := dispatch_q_append t refresh s
  refine h.of_append (by simp) (by simp) (by simp) hq ⟨?_, dispatch_q_length t refresh s h.queue_bound⟩
  rw [hq]
  refine List.forall_mem_append.2 ⟨h.requests_ok, fun r hr => ?_⟩
  obtain ⟨row, hrow, b, hb, rfl⟩ := hnew r hr
  exact readRequest_ok s.cfg b.dest b.forceRefresh (h.cfg_ok.burst row hrow b hb)

/-- SEND_HEAD waits exactly for a head that is no Raw request; a Raw one is dropped in Idle (42_tx_state_machine.md R110). -/
theorem sendHead_keeps_inv {s : State} (h : Inv s) (hidle : s.txStatus = .idle) : Inv (sendHead s) := by
  unfold sendHead
  cases hq : s.q with
  | nil => exact h
  | cons r rest =>
    have hwait : ∀ f, r.action ≠ .raw → Inv (transmitAndWait f s) := fun f hr =>
      h.of_queue rfl rfl h.queueOk fun _ => ⟨r, rest, hq, hr⟩
    cases ha : r.action <;> simp only [ha]
    case raw => exact h.of_idle rfl rfl h.queueOk.tail hidle
    all_goals exact hwait _ (by simp [ha])

/-- The Write acknowledged by the bus is converted in place, and the engine is Idle (R111, R125). -/
theorem convertHead_keeps_inv {s : State} (h : Inv s) (hw : s.q.head?.any (·.action == .write) = true) :
    Inv (setStatus .idle (createValidate s)) := by
  refine h.of_idle (by simp) (by simp) ?_ rfl
  cases hq : s.q with
  | nil => simp [hq] at hw
  | cons r rest =>
    have hok : QueueOk s.cfg (r :: rest) := hq ▸ h.queueOk
    have hr : r.action = .write := by simpa [hq] using hw
    rw [setStatus_q, createValidate_q, hq]
    exact hok.setHead (toValidate_ok hok.head_ok hr)

/-- RETRY_OR_DROP in Idle: the head is kept with a count within the budget, or dropped (R120). -/
theorem retryOrDrop_keeps_inv {s : State} {r : TxRequest} {rest : List TxRequest} (g : GiveUp) (h : Inv s)
    (hidle : s.txStatus = .idle) (hq : s.q = r :: rest) : Inv (retryOrDrop g s).2 := by
  have hok : QueueOk s.cfg (r :: rest) := hq ▸ h.queueOk
  refine h.of_idle (by simp) (by simp) ?_ (by simp [hidle])
  obtain ⟨hn, -, hq', -⟩ | ⟨-, hq', -⟩ := retryOrDrop_cases g s r rest hq
  · exact hq' ▸ hok.setHead (hok.head_ok.setRetryCount hn)
  · exact hq' ▸ hok.tail

/-- Case READ (R119): the reply completes the Read, or it counts as a mismatch. -/
theorem readReply_keeps_inv {s : State} {r : TxRequest} {rest : List TxRequest} (t : Telegram) (h : Inv s)
    (hidle : s.txStatus = .idle) (hq : s.q = r :: rest) : Inv (readReply t s) := by
  rw [readReply_eq t s r rest hq]
  split
  · exact dispatch_keeps_inv t _ (setBus_keeps_inv _ (popHead_keeps_inv h hidle))
  · exact dispatch_keeps_inv t _ (retryOrDrop_keeps_inv _ h hidle hq)

/-- Case VALIDATE (R121): the post-read takes the place that the completed Validate left, or the Write is restored with its
payload, or dropped. -/
theorem validateReply_keeps_inv {s : State} {r : TxRequest} {rest : List TxRequest} (t : Telegram) (h : Inv s)
    (hidle : s.txStatus = .idle) (hq : s.q = r :: rest) (hv : r.action = .validate) : Inv (validateReply t s) := by
  have hok : QueueOk s.cfg (r :: rest) := hq ▸ h.queueOk
  rw [validateReply_eq t s r rest hq]
  split
  · exact pushTail_keeps_inv (popHead_keeps_inv h hidle) (readRequest_ok _ _ _ hok.head_ok.postReadType_ok)
  · have hretry := retryOrDrop_keeps_inv .writeFailed h hidle hq
    obtain ⟨hn, hkept, hq', -⟩ | ⟨hdropped, -, -⟩ := retryOrDrop_cases .writeFailed s r rest hq
    · rw [if_pos hkept]
      refine hretry.of_idle (by simp) (by simp) ?_ (by simp [hidle])
      rw [restoreWrite_q, hq', retryOrDrop_cfg]
      exact hok.setHead (toWrite_ok (hok.head_ok.setRetryCount hn) hv)
    · rw [hdropped]
      exact hretry

/-! ### The handler table -/

/-- The key of a handler entry (10_state.md R29). -/
def handlerKey (h : Handler) : Scope × TypeId := (h.scope, h.type)

/-- Replacing a callback leaves every key in place. -/
theorem replaceHandler_keys {sc : Scope} {type : TypeId} {cb : CbId} {hs hs' : List Handler}
    (h : replaceHandler sc type cb hs = some hs') : hs'.map handlerKey = hs.map handlerKey := by
  induction hs generalizing hs' with
  | nil => cases h
  | cons e rest ih =>
    unfold replaceHandler at h
    split at h
    · injection h with h; subst h; rfl
    · obtain ⟨rest', hrest, rfl⟩ := Option.map_eq_some_iff.1 h
      rw [List.map_cons, List.map_cons, ih hrest]

/-- No entry was replaced only where no entry has the key. -/
theorem key_notMem_of_replaceHandler {sc : Scope} {type : TypeId} {cb : CbId} {hs : List Handler}
    (h : replaceHandler sc type cb hs = none) : (sc, type) ∉ hs.map handlerKey := by
  induction hs with
  | nil => simp
  | cons e rest ih =>
    unfold replaceHandler at h
    split at h
    · cases h
    · rename_i hne
      rw [List.map_cons, List.mem_cons, not_or]
      refine ⟨fun heq => hne ?_, ih (Option.map_eq_none_iff.1 h)⟩
      injection heq with hsc htype
      exact ⟨hsc.symm, htype.symm⟩

theorem setHandlers_keeps_inv {s : State} {hs : List Handler} (h : Inv s) (hbound : hs.length ≤ s.cfg.handlerSlots)
    (hkeys : (hs.map handlerKey).Nodup) : Inv (setHandlers hs s) :=
  ⟨h.cfg_ok, h.requests_ok, h.queue_bound, h.in_flight, hbound, hkeys⟩

/-- REG_HANDLER replaces an entry with the key or appends one with a new key within the slots (45_host_commands.md R171). -/
theorem registration_keeps_inv {s : State} {sc : Scope} {type : TypeId} {cb : CbId} {hs : List Handler} (h : Inv s)
    (hreg : replaceHandler sc type cb s.handlers = some hs ∨
      (replaceHandler sc type cb s.handlers = none ∧ s.handlers.length < s.cfg.handlerSlots ∧
        hs = s.handlers ++ [⟨sc, type, cb⟩])) : Inv (setHandlers hs s) := by
  have hold : (s.handlers.map handlerKey).Nodup := h.handler_keys
  obtain hsome | ⟨hnone, hroom, rfl⟩ := hreg
  · have hkeys := replaceHandler_keys hsome
    have hlen : hs.length = s.handlers.length := by simpa using congrArg List.length hkeys
    exact setHandlers_keeps_inv h (hlen ▸ h.handler_bound) (hkeys ▸ hold)
  · refine setHandlers_keeps_inv h (by simpa using hroom) ?_
    rw [List.map_append]
    exact List.nodup_append'.2 ⟨hold, List.nodup_singleton _,
      List.disjoint_singleton.2 (key_notMem_of_replaceHandler hnone)⟩

/-! ### The events -/

theorem rx_keeps_inv {s v : State} {f : Frame} {now : Time} (h : Inv s)
    (hexec : exec (decodeFrame s.cfg s.txStatus s.q.head? f now) s = .next v) : Inv v := by
  obtain rfl | ⟨-, rfl⟩ | ⟨-, -, rfl⟩ | ⟨-, -, rfl⟩ | ⟨-, -, rfl⟩ | ⟨-, -, -, rfl⟩ | ⟨t, -, -, -, htlg⟩ := rx_cases hexec
  · exact h
  · split
    · rename_i hsend
      exact sendHead_keeps_inv (setBus_keeps_inv _ h) hsend.2
    · exact pollAck_keeps_inv (setBus_keeps_inv _ h)
  · have hack := pollAck_keeps_inv (setBus_keeps_inv { s.bus with txPackets := satInc s.bus.txPackets } h)
    split
    · rename_i hw
      exact convertHead_keeps_inv hack hw
    · exact hack
  · exact h.of_idle (by simp) (by simp) (by simpa [raise] using h.queueOk.tail) rfl
  · exact setBus_keeps_inv _ h
  · exact setBus_keeps_inv _ h
  · have hpre := waitPrelude_keeps_inv t now h
    obtain ⟨-, rfl⟩ | ⟨-, ⟨-, rfl | rfl⟩ | ⟨r, rest, hq, hours⟩⟩ := htlg
    · exact dispatch_keeps_inv t false (telegramPrelude_keeps_inv t now h)
    · exact dispatch_keeps_inv t false hpre
    · exact pollAck_keeps_inv (dispatch_keeps_inv t false hpre)
    · obtain ⟨-, rfl⟩ | ⟨-, ⟨-, rfl⟩ | ⟨hv, rfl⟩ | ⟨-, rfl⟩⟩ := hours
      · exact dispatch_keeps_inv t false (popHead_keeps_inv hpre rfl)
      · exact pollAck_keeps_inv (readReply_keeps_inv t hpre rfl hq)
      · exact pollAck_keeps_inv (validateReply_keeps_inv t hpre rfl hq hv)
      · exact pollAck_keeps_inv (evtHead_keeps_inv .internalInconsistency hpre)

theorem cmd_keeps_inv {s v : State} {code : Byte} {o : CmdOperands} {now : Time} (h : Inv s)
    (hexec : exec (decodeCmd code o now) s = .next v) : Inv v := by
  obtain ⟨rc, -, rfl⟩ | ⟨vals, rfl⟩ | ⟨hroom, r, rfl, hr⟩ | ⟨-, rfl⟩ | ⟨-, rfl⟩ | ⟨-, rfl⟩ | ⟨-, rfl⟩ |
    ⟨-, sc, hs, rfl, hreg⟩ := cmd_cases hexec
  · exact respond_keeps_inv _ _ h
  · exact respond_keeps_inv _ _ h
  · have hok : r.Ok s.cfg := by
      obtain ⟨hchk, rfl⟩ | ⟨hchk, rfl⟩ | ⟨hchk, rfl⟩ := hr
      · exact readRequest_ok _ _ _ (Bool.and_eq_true_iff.1 hchk).1
      · exact writeRequest_ok _ _ _ hchk
      · exact rawRequest_ok hchk
    have hpush := pushTail_keeps_inv h hok
    rw [pushTail_of_room r s hroom] at hpush
    exact respond_keeps_inv _ _ hpush
  · have hslots : Inv (resetSlots s) := h.congr rfl rfl rfl rfl
    exact answerPush_keeps_inv (scanDevices_keeps_inv (clearQueue_keeps_inv hslots))
  · exact answerPush_keeps_inv (scanDevices_keeps_inv h)
  · exact respond_keeps_inv _ _ (clearQueue_keeps_inv h)
  · exact respond_keeps_inv _ _ (setBus_keeps_inv _ h)
  · exact respond_keeps_inv _ _ (registration_keeps_inv h hreg)

/-- Settles O50: a step is nothing, one RX operation or one host command, and each keeps the invariant. -/
theorem stepKeepsTheInvariant : Obligations.StepKeepsTheInvariant := by
  intro s s' h hstep
  obtain ⟨-, rfl⟩ | ⟨f, now, rest, u, v, -, -, rfl, hexec, rfl⟩ | ⟨code, o, now, rest, v, -, hexec, rfl⟩ :=
    step_cases hstep
  · exact h
  · have htaken : Inv (setRxbuf f (setInbox rest s)) := h.congr rfl rfl rfl rfl
    exact endEvent_keeps_inv (rx_keeps_inv htaken hexec)
  · have htaken : Inv (setInbox rest s) := h.congr rfl rfl rfl rfl
    exact endEvent_keeps_inv (cmd_keeps_inv htaken hexec)

end Sys2Proof

/-! PROOFS. The frame codec (40_frame_codec.md): O2 and O3 on VERIFY, O5 and O6 on DECODE_HEADER, O8 on ENCODE_RAW. First
what each operation answers where its precondition holds, then the perturbation property of R84: with a permutation as its
table the running checksum forgets neither its previous value nor the byte it takes in. -/

namespace Sys2Proof

open Machine

/-! ### The operations run on their own, where their preconditions hold -/

theorem exec_verify (s : State) (f : Frame) (h : 2 ≤ f.length) :
    exec (.verify f) s = .next (setResult (.bit (verify s.cfg f)) s) :=
  whenWellFormed_next (.verify f) s _ (decide_eq_true h)

theorem exec_encodeRaw (s : State) (r : TxRequest) (h : r.action = .raw) :
    exec (.encodeRaw r) s = .next (setTxbuf (withChecksum s.cfg r.payload) s) :=
  whenWellFormed_next (.encodeRaw r) s _ (beq_iff_eq.2 h)

theorem telegramLength_of_bounds {c : Config} {f : Frame} (hmin : minTelegramLen ≤ f.length)
    (hmax : f.length ≤ c.maxFrameLen) : telegramLength c f = true :=
  Bool.and_eq_true_iff.2 ⟨decide_eq_true hmin, decide_eq_true hmax⟩

theorem exec_decodeHeaderS (s : State) (f : Frame) (hlen : telegramLength s.cfg f = true) (hv : verify s.cfg f = true)
    (hstd : isExtended f = false) : exec (.decodeHeaderS f) s = .next (setTlg (decodeHeaderS f) s) :=
  whenWellFormed_next (.decodeHeaderS f) s _ (by simp [wellFormed, hlen, hv, hstd])

/-- FrameTooShort changes nothing (60_exceptions.md R182), so where the header does not fit only the Telegram view is
written, as where it fits. -/
theorem exec_decodeHeaderX (s : State) (f : Frame) (hlen : telegramLength s.cfg f = true) (hv : verify s.cfg f = true)
    (hext : isExtended f = true) : exec (.decodeHeaderX f) s = .next (setTlg (decodeHeaderX s.cfg f) s) := by
  have hrun : exec (.decodeHeaderX f) s = .next _ :=
    whenWellFormed_next (.decodeHeaderX f) s _ (by simp [wellFormed, hlen, hv, hext])
  rw [hrun]
  cases decodeHeaderX s.cfg f <;> rfl

/-- Byte 2 alone selects the form (30_encoding.md R65). -/
theorem isExtended_cons (b0 b1 m : Byte) (tail : List Byte) :
    isExtended (b0 :: b1 :: m :: tail) = decide (extMark ≤ m.toNat) :=
  rfl

/-- The Telegram of a standard frame, field by field (R86). -/
theorem decodeHeaderS_cons (b0 b1 b2 b3 : Byte) (rest : List Byte) :
    decodeHeaderS (b0 :: b1 :: b2 :: b3 :: rest) =
      some ⟨devOf b0, devOf b1, readMark b1, TypeId.ofByte b2, b3, rest.dropLast, true⟩ :=
  rfl

/-- The Telegram of an extended frame is its header fields around EXT_LAYOUT's answer (R87). -/
theorem decodeHeaderX_cons (c : Config) (b0 b1 : Byte) (tail : List Byte) :
    decodeHeaderX c (b0 :: b1 :: tail) = (extLayout c (b0 :: b1 :: tail)).map fun h =>
      ⟨devOf b0, devOf b1, readMark b1, ⟨true, h.val⟩, h.offset, h.data, true⟩ :=
  rfl

/-! ### The perturbation property (R84) -/

/-- The table of a legal configuration maps distinct bytes to distinct bytes. -/
theorem crcTable_injective {c : Config} (hc : c.WF) : Function.Injective fun v : Byte => c.crcTable.getD v.toNat 0 := by
  intro v w h
  have hin : ∀ u : Byte, u.toNat < c.crcTable.length := fun u => hc.crcLength ▸ u.isLt
  simp only [List.getD_eq_getElem _ _ (hin _)] at h
  exact BitVec.eq_of_toNat_eq (hc.crcNodup.getElem_inj_iff.1 h)

/-- Equal running values after the same bytes were equal before them. -/
theorem foldl_crcStep_injective {c : Config} (hc : c.WF) (bs : List Byte) :
    Function.Injective fun v : Byte => bs.foldl (crcStep c) v := by
  induction bs with
  | nil => exact fun _ _ h => h
  | cons b bs ih =>
    intro v w h
    have hstep : crcStep c v b = crcStep c w b := ih h
    exact crcTable_injective hc (BitVec.xor_left_inj b |>.1 hstep)

/-- Frames that differ in one byte before the last have different checksums. -/
theorem checksum_middle_injective {c : Config} (hc : c.WF) (pre post : List Byte) :
    Function.Injective fun x : Byte => checksum c (pre ++ x :: post) := by
  intro x y h
  simp only [checksum, List.foldl_append, List.foldl_cons] at h
  have hstep := foldl_crcStep_injective hc post h
  exact BitVec.xor_right_inj _ |>.1 hstep

/-- Two frames that verify and agree everywhere but in one byte agree in it: the last byte is the checksum of the others,
and an earlier one is determined by the checksum that the last byte states. -/
theorem byte_unique_of_verify {c : Config} (hc : c.WF) {pre post : List Byte} {x y : Byte}
    (hx : verify c (pre ++ x :: post) = true) (hy : verify c (pre ++ y :: post) = true) : x = y := by
  obtain rfl | ⟨mid, last, rfl⟩ := List.eq_nil_or_concat' post
  · rw [verify_append, decide_eq_true_iff] at hx hy
    exact hx.trans hy.symm
  · simp only [← List.cons_append, ← List.append_assoc, verify_append, decide_eq_true_iff] at hx hy
    exact checksum_middle_injective hc pre mid (hx.symm.trans hy)

/-! ### The obligations -/

/-- Settles O3: the frame and the frame with the byte replaced cannot both verify. -/
theorem singleByteChangeFailsVerify : Obligations.SingleByteChangeFailsVerify := by
  intro c hc f k hk b hv hne
  refine Bool.eq_false_iff.2 fun hset => hne ?_
  rw [← List.set_getElem_self hk] at hv
  rw [List.set_eq_take_append_cons_drop, if_pos hk] at hv hset
  exact byte_unique_of_verify hc hv hset

/-- Settles O6: the Telegram is EXT_LAYOUT's answer with the header bytes, and the bounds are `placeExt`'s. -/
theorem extendedHeaderDecodes : Obligations.ExtendedHeaderDecodes := by
  rintro s b0 b1 m tail f rfl hmin hmax hv hm
  have hext := (isExtended_cons b0 b1 m tail).trans (decide_eq_true hm)
  constructor
  · rw [exec_decodeHeaderX s _ (telegramLength_of_bounds hmin hmax) hv hext, decodeHeaderX_cons, devOf_eq, devOf_eq,
      readMark_eq]
    rfl
  · intro h hlayout
    obtain ⟨p, d, off, hplace⟩ := extLayout_some hlayout
    obtain ⟨hp, hpair, hd, hend, hi, lo, hhi, hlo, rfl⟩ := placeExt_some hplace
    exact ⟨p, d, hi, lo, hp, by omega, hd, by omega, hhi, hlo, rfl, rfl⟩

/-- Settles O2: VERIFY of a frame given as its bytes and its last byte. -/
theorem verifyComparesTheLastByte : Obligations.VerifyComparesTheLastByte := by
  intro s bs b hbs
  have hlen : 2 ≤ (bs ++ [b]).length := by
    rw [List.length_append]
    exact Nat.succ_le_succ (List.length_pos_iff.2 hbs)
  rw [exec_verify s _ hlen, verify_append, Bool.decide_congr eq_comm]
  rfl

/-- Settles O5: each field from its byte, the data without the checksum. -/
theorem standardHeaderDecodes : Obligations.StandardHeaderDecodes := by
  intro s b0 b1 b2 b3 crc data hmax hv hb2
  have hmin : minTelegramLen ≤ (b0 :: b1 :: b2 :: b3 :: (data ++ [crc])).length := by simp [minTelegramLen]
  have hfit : (b0 :: b1 :: b2 :: b3 :: (data ++ [crc])).length ≤ s.cfg.maxFrameLen := by
    simp only [List.length_cons, List.length_append, List.length_nil]
    omega
  have hstd := (isExtended_cons b0 b1 b2 (b3 :: (data ++ [crc]))).trans (decide_eq_false (Nat.not_le.2 hb2))
  rw [exec_decodeHeaderS s _ (telegramLength_of_bounds hmin hfit) hv hstd, decodeHeaderS_cons, List.dropLast_concat,
    devOf_eq, devOf_eq, readMark_eq]
  rfl

/-- Settles O8: ENCODE_RAW of a Raw request is its payload with the checksum appended. -/
theorem rawFrameAppendsChecksum : Obligations.RawFrameAppendsChecksum :=
  fun s r hraw => exec_encodeRaw s r hraw

end Sys2Proof

/-! PROOFS. The device registry (41_device_registry.md): O14 on LOOKUP, O17 on ON_VERSION. LOOKUP is the library's
`List.find?`. ASSIGN is idempotent, because a slot it writes is matched and a matched slot is left alone (R98); ON_VERSION
is one ASSIGN or nothing, and which one depends on the configuration alone (R97), so it is idempotent too (R99). -/

namespace Sys2Proof

open Machine

/-! ### LOOKUP -/

theorem lookup_eq_find? (table : List DeviceRecord) (id : ProductId) :
    lookup table id = table.find? (·.productId = id) := by
  induction table with
  | nil => rfl
  | cons r rest ih =>
    by_cases hid : r.productId = id
    · simp [lookup, hid]
    · simp [lookup, hid, ih]

theorem lookup_eq_none_iff {table : List DeviceRecord} {id : ProductId} :
    lookup table id = none ↔ ∀ r ∈ table, r.productId ≠ id := by
  simp [lookup_eq_find?]

/-- LOOKUP's answer stands in the table behind records with other product ids only (R96). -/
theorem lookup_eq_some_iff {table : List DeviceRecord} {id : ProductId} {r : DeviceRecord} :
    lookup table id = some r ↔
      r.productId = id ∧ ∃ pre post, table = pre ++ r :: post ∧ ∀ x ∈ pre, x.productId ≠ id := by
  simp [lookup_eq_find?, List.find?_eq_some_iff_append]

/-! ### ASSIGN and ON_VERSION -/

/-- After an ASSIGN that acted the slot is matched; one that did not act left the state as it was. -/
theorem assign_idempotent (k : Kind) (rec : DeviceRecord) (ver : Byte × Byte) (s : State) :
    assign k rec ver (assign k rec ver s) = assign k rec ver s := by
  by_cases hacts : assignable s.cfg (slotOf k s) rec = true
  · have hslot : slotOf k (assign k rec ver s) = assignedSlot rec ver := by rw [slotOf_assign, if_pos hacts]
    exact assign_of_matched k rec ver _ (by rw [hslot]; rfl)
  · have hsame : assign k rec ver s = s := if_neg hacts
    rw [hsame, hsame]

theorem onVersion_of_resolveVersion {t : Telegram} {s : State} {k : Kind} {rec : DeviceRecord} {ver : Byte × Byte}
    (h : resolveVersion s.cfg t = some (k, rec, ver)) : onVersion t s = assign k rec ver s := by
  simp [onVersion, h]

/-- The second telegram resolves to the record of the first: ASSIGN keeps the configuration. -/
theorem onVersion_idempotent (t : Telegram) (s : State) : onVersion t (onVersion t s) = onVersion t s := by
  obtain hsame | ⟨k, rec, ver, hres, hassign⟩ := onVersion_cases t s
  · rw [hsame, hsame]
  · have hagain : resolveVersion (assign k rec ver s).cfg t = some (k, rec, ver) := by rw [assign_cfg, hres]
    rw [hassign, onVersion_of_resolveVersion hagain, assign_idempotent]

/-- An ON_VERSION that completes has a well-formed telegram and is `onVersion`. -/
theorem exec_onVersion_eq_next {t : Telegram} {s u : State} (h : exec (.onVersion t) s = .next u) :
    wellFormed s.cfg (.onVersion t) = true ∧ onVersion t s = u :=
  of_whenWellFormed (i := .onVersion t) h

theorem exec_onVersion {t : Telegram} {s : State} (h : wellFormed s.cfg (.onVersion t) = true) :
    exec (.onVersion t) s = .next (onVersion t s) :=
  whenWellFormed_next (.onVersion t) s _ h

/-! ### The obligations -/

/-- Settles O14: LOOKUP's answer, none or a record, by the two characterisations of `lookup`. -/
theorem lookupAnswersTheFirstMatch : Obligations.LookupAnswersTheFirstMatch := by
  intro s k id
  refine ⟨lookup (tableOf s.cfg k) id, rfl, ?_⟩
  intro table htable
  have htableOf : tableOf s.cfg k = table := by subst htable; cases k <;> rfl
  rw [htableOf]
  cases hfound : lookup table id with
  | none => exact .inl ⟨rfl, lookup_eq_none_iff.1 hfound⟩
  | some r =>
    obtain ⟨hid, pre, post, hsplit, hpre⟩ := lookup_eq_some_iff.1 hfound
    exact .inr ⟨pre, r, post, hsplit, hpre, hid, rfl⟩

/-- Settles O17: the precondition is judged by the configuration, which ON_VERSION keeps, and ON_VERSION is idempotent. -/
theorem repeatedVersionTelegramIsANoOp : Obligations.RepeatedVersionTelegramIsANoOp := by
  intro s u t hfirst
  obtain ⟨hwf, rfl⟩ := exec_onVersion_eq_next hfirst
  have hwfAgain : wellFormed (onVersion t s).cfg (.onVersion t) = true := by rw [onVersion_cfg, hwf]
  rw [exec_onVersion hwfAgain, onVersion_idempotent]

end Sys2Proof

/-! PROOFS. The transmit queue state machine (42_tx_state_machine.md), operation by operation: O19 on RX_POLL, O25 and O26
on RX_NOISE and RX_BADCRC, O27 on RX_TLG_IDLE, O34 on RX_TLG_WAIT.WRITE, O36 and O37 on the two conversions of the head.
First what the shared operations do on a queue with a head and on a telegram that is no Version telegram, then the next
state of each operation where it is selected. -/

namespace Sys2Proof

open Machine

/-! ### The shared operations -/

theorem updateHead_of_cons (g : TxRequest → TxRequest) {s : State} {r : TxRequest} {rest : List TxRequest}
    (hq : s.q = r :: rest) : updateHead g s = setQ (g r :: rest) s := by
  unfold updateHead
  rw [hq]

theorem evtHead_of_cons (c : Condition) {s : State} {r : TxRequest} {rest : List TxRequest} (hq : s.q = r :: rest) :
    evtHead c s = emit (.evt c r.type r.dest) s := by
  unfold evtHead
  rw [hq]

/-- Only a Version telegram is routed to the registry (43_dispatcher.md R143): to dispatch any other one is to emit. -/
theorem dispatch_of_ne_version {t : Telegram} (h : t.type ≠ typeVersion) (refresh : Bool) (s : State) :
    dispatch t refresh s = emitAll (.disp (dispatchFields t refresh) :: handlerCalls t refresh s) s := by
  have hroute : routeVersion t s = s := if_neg h
  rw [dispatch_eq, hroute]
  rfl

/-- DISPATCH emits one `DISP` and the handler calls, so it transmits nothing. -/
theorem txFrames_emitted_dispatch (t : Telegram) (refresh : Bool) (s : State) :
    txFrames (emitted s (dispatch t refresh s)) = [] := by
  rw [emitted_of_append _ _ _ (dispatch_outbox t refresh s)]
  exact txFrames_handlerCalls t refresh _

/-- Counting up to the greatest value is `sat_inc` (00_scope.md R11). -/
theorem satInc_eq_of_toNat {c crc : Count} (h : crc.toNat = min (c.toNat + 1) (2 ^ 32 - 1)) : satInc c = crc :=
  BitVec.eq_of_toNat_eq ((satInc_toNat c).trans h.symm)

/-! ### The operations where they are selected -/

/-- RX_POLL runs in every state (R109). -/
theorem exec_rxPoll (now : Time) (s : State) :
    exec (.rxPoll now) s = .next
      (if s.q ≠ [] ∧ s.txStatus = .idle then sendHead (setBus { s.bus with lastPoll := some now } s)
      else pollAck (setBus { s.bus with lastPoll := some now } s)) :=
  rfl

theorem exec_sendHead {s : State} {r : TxRequest} {rest : List TxRequest} (hq : s.q = r :: rest)
    (hidle : s.txStatus = .idle) : exec .sendHead s = .next (sendHead s) :=
  whenSelected_next .sendHead s _ (by simp [selectedIn, hq, hidle])

/-- RX_NOISE records the time of a frame of telegram length; FrameTooShort has no effect (R114; 60_exceptions.md R182). -/
theorem exec_rxNoise (f : Frame) (now : Time) (s : State) :
    exec (.rxNoise f now) s =
      .next (if minTelegramLen ≤ f.length then setBus { s.bus with lastRx := some now } s else s) :=
  rfl

/-- RX_BADCRC counts, whatever the frame (R115; log 27). -/
theorem exec_rxBadcrc (f : Frame) (now : Time) (s : State) :
    exec (.rxBadcrc f now) s = .next (setBus { s.bus with crcErrors := satInc s.bus.crcErrors } s) :=
  rfl

theorem exec_rxTlgIdle (t : Telegram) (now : Time) {s : State} (hidle : s.txStatus = .idle) :
    exec (.rxTlgIdle t now) s = .next (dispatch t false (telegramPrelude t now s)) :=
  whenSelected_next (.rxTlgIdle t now) s _ (by simp [selectedIn, hidle])

theorem exec_rxTlgWaitWrite {t : Telegram} (now : Time) {s : State} {r : TxRequest} {rest : List TxRequest}
    (hwait : s.txStatus = .wait) (hq : s.q = r :: rest) (hw : r.action = .write) (hours : t.dest = s.cfg.ownId) :
    exec (.rxTlgWaitWrite t now) s = .next (pollAck (raise .internalInconsistency (waitPrelude t now s))) :=
  whenSelected_next (.rxTlgWaitWrite t now) s _ (by simp [selectedIn, hwait, hq, hw, hours])

theorem exec_createValidate {s : State} {r : TxRequest} {rest : List TxRequest} (hq : s.q = r :: rest)
    (hw : r.action = .write) : exec .createValidate s = .next (setQ (toValidate r :: rest) s) := by
  rw [← updateHead_of_cons toValidate hq]
  exact whenSelected_next .createValidate s _ (by simp [selectedIn, hq, hw])

theorem exec_restoreWrite {s : State} {r : TxRequest} {rest : List TxRequest} (hq : s.q = r :: rest)
    (hv : r.action = .validate) : exec .restoreWrite s = .next (setQ (toWrite r :: rest) s) := by
  rw [← updateHead_of_cons toWrite hq]
  exact whenSelected_next .restoreWrite s _ (by simp [selectedIn, hq, hv])

/-! ### The obligations -/

/-- Settles O19: with nothing to send, or in Wait, RX_POLL is the poll-ack; Idle with a head it is SEND_HEAD. -/
theorem ownPollIsAnswered : Obligations.OwnPollIsAnswered := by
  rintro s now p rfl
  rw [exec_rxPoll]
  constructor
  · intro hack
    have hnosend : ¬ (s.q ≠ [] ∧ s.txStatus = .idle) := by
      obtain hnil | hwait := hack
      · simp [hnil]
      · simp [hwait]
    rw [if_neg hnosend, pollAck_eq]
    rfl
  · intro r rest hq hidle
    have hsend : s.q ≠ [] ∧ s.txStatus = .idle := ⟨by simp [hq], hidle⟩
    rw [if_pos hsend]
    exact ⟨_, exec_sendHead (s := setBus _ s) hq hidle, rfl⟩

/-- Settles O25: the length decides alone whether `last_rx` is recorded. -/
theorem noiseMovesNoCounter : Obligations.NoiseMovesNoCounter := by
  intro s f now
  rw [exec_rxNoise]
  constructor
  · intro _ hshort
    rw [if_neg (c := minTelegramLen ≤ f.length) (Nat.not_le.2 (Nat.lt_succ_of_le hshort))]
  · intro hlong
    rw [if_pos (c := minTelegramLen ≤ f.length) hlong]
    rfl

/-- Settles O26: the row of a bad checksum selects RX_BADCRC, which is one `sat_inc`. -/
theorem badChecksumOnlyCounts : Obligations.BadChecksumOnlyCounts := by
  intro s f now crc hcrc
  obtain rfl := satInc_eq_of_toNat hcrc
  refine ⟨exec_rxBadcrc f now s, fun rest hinbox hmin hmax hbad => ?_⟩
  rw [step_rx s f now rest hinbox hmax, decodeFrame_badcrc _ _ _ _ _ hmin hbad, exec_rxBadcrc]
  rfl

/-- Settles O27: RX_TLG_IDLE is DISPATCH behind the prelude, and neither of them writes the fields that stay. -/
theorem idleTelegramIsOnlyDispatched : Obligations.IdleTelegramIsOnlyDispatched := by
  intro s t now hidle
  refine ⟨dispatch t false (telegramPrelude t now s), rfl, exec_rxTlgIdle t now hidle,
    txFrames_emitted_dispatch t false (telegramPrelude t now s), ?_, ?_, ?_, fun htype => ?_⟩
  · rw [dispatch_txStatus, telegramPrelude_txStatus, hidle]
  · rw [dispatch_bus, telegramPrelude_bus]
  · rw [dispatch_handlers, telegramPrelude_handlers]
  · rw [dispatch_of_ne_version htype]
    exact ⟨rfl, rfl, rfl⟩

/-- Settles O37: the second conversion keeps aside what the first one did, so together they give the Write back. -/
theorem restoreWriteUndoesCreateValidate : Obligations.RestoreWriteUndoesCreateValidate := by
  intro s r rest hq
  refine ⟨fun hv => exec_restoreWrite hq hv, fun hw => ⟨_, exec_createValidate hq hw, ?_⟩⟩
  rw [exec_restoreWrite (s := setQ (toValidate r :: rest) s) rfl rfl, toWrite_toValidate r hw]
  rfl

/-- Settles O34: the head's EVT, then the poll-ack; nothing else is written behind the prelude. -/
theorem telegramOnWriteHeadIsOnlyReported : Obligations.TelegramOnWriteHeadIsOnlyReported := by
  intro s t now r rest hwait hq hw hours
  have hevt : raise .internalInconsistency (waitPrelude t now s) =
      emit (.evt .internalInconsistency r.type r.dest) (waitPrelude t now s) := evtHead_of_cons _ hq
  rw [exec_rxTlgWaitWrite now hwait hq hw hours, hevt, pollAck_eq, emit_outbox, List.append_assoc]
  rfl

/-- Settles O36: the conversion of the head in place is `toValidate`. -/
theorem createValidateConvertsTheHead : Obligations.CreateValidateConvertsTheHead :=
  fun _ _ _ hq hw => exec_createValidate hq hw

end Sys2Proof

/-! PROOFS. The queue over a step (42_tx_state_machine.md R128): O54. `FifoStep` says what may become of a queue. It
allows the three moves of the head (kept, removed, replaced by a request to the same device with the same type), and it
still holds when requests are added at the tail. Each shared operation is one of these moves or such an addition;
`step_cases`, `rx_cases` and `cmd_cases` say which operations a step is. -/

namespace Sys2Proof

open Machine

/-! ### What may become of a queue -/

/-- The old queue with requests added at the tail, its head kept, removed, or replaced in place by a request to the same
device with the same type. -/
def FifoStep (q q' : List TxRequest) : Prop :=
  ∃ new, q' = q ++ new ∨ ∃ r qs, q = r :: qs ∧ (q' = qs ++ new ∨
    ∃ r', r'.dest = r.dest ∧ r'.type = r.type ∧ q' = r' :: qs ++ new)

theorem FifoStep.refl (q : List TxRequest) : FifoStep q q := ⟨[], .inl (List.append_nil q).symm⟩

theorem FifoStep.tail (q : List TxRequest) : FifoStep q q.tail :=
  match q with
  | [] => .refl []
  | r :: qs => ⟨[], .inr ⟨r, qs, rfl, .inl (List.append_nil qs).symm⟩⟩

theorem FifoStep.replaceHead {r r' : TxRequest} (qs : List TxRequest) (hdest : r'.dest = r.dest)
    (htype : r'.type = r.type) : FifoStep (r :: qs) (r' :: qs) :=
  ⟨[], .inr ⟨r, qs, rfl, .inr ⟨r', hdest, htype, (List.append_nil _).symm⟩⟩⟩

/-- Whatever became of the head, more requests may follow at the tail. -/
theorem FifoStep.append {q q' : List TxRequest} (h : FifoStep q q') (more : List TxRequest) :
    FifoStep q (q' ++ more) := by
  obtain ⟨new, rfl | ⟨r, qs, rfl, rfl | ⟨r', hdest, htype, rfl⟩⟩⟩ := h <;> rw [List.append_assoc]
  · exact ⟨new ++ more, .inl rfl⟩
  · exact ⟨new ++ more, .inr ⟨r, qs, rfl, .inl rfl⟩⟩
  · exact ⟨new ++ more, .inr ⟨r, qs, rfl, .inr ⟨r', hdest, htype, rfl⟩⟩⟩

/-! ### The operations that add at the tail -/

theorem FifoStep.pushTail {q : List TxRequest} {s : State} (h : FifoStep q s.q) (r : TxRequest) :
    FifoStep q (pushTail r s).2.q := by
  rw [pushTail_q]
  split
  · exact h.append [r]
  · exact h

theorem FifoStep.scanDevices {q : List TxRequest} {s : State} (h : FifoStep q s.q) :
    FifoStep q (scanDevices s).2.q := by
  rw [Machine.scanDevices, pushAll_q]
  exact h.append _

/-- DISPATCH adds the reads of an initial burst, or nothing (41_device_registry.md R98). -/
theorem FifoStep.dispatch {q : List TxRequest} {s : State} (h : FifoStep q s.q) (t : Telegram) (refresh : Bool) :
    FifoStep q (dispatch t refresh s).q := by
  obtain ⟨new, hnew, -⟩ := dispatch_q_append t refresh s
  rw [hnew]
  exact h.append new

/-! ### The operations on the head -/

/-- SEND_HEAD leaves the head for its answer, or drops a Raw one (42_tx_state_machine.md R110). -/
theorem sendHead_q_cases (s : State) : (sendHead s).q = s.q ∨ (sendHead s).q = s.q.tail := by
  unfold sendHead
  split
  next => exact .inl rfl
  next r _ _ =>
    cases r.action with
    | read => exact .inl rfl
    | write => exact .inl rfl
    | validate => exact .inl rfl
    | raw => exact .inr rfl

theorem sendHead_fifo (s : State) : FifoStep s.q (sendHead s).q := by
  obtain hkept | hdropped := sendHead_q_cases s
  · exact hkept ▸ .refl s.q
  · exact hdropped ▸ .tail s.q

/-- CREATE_VALIDATE converts the head in place (R125). -/
theorem createValidate_fifo (s : State) : FifoStep s.q (createValidate s).q := by
  rw [createValidate_q]
  cases s.q with
  | nil => exact .refl []
  | cons r rest => exact .replaceHead rest rfl rfl

/-- RETRY_OR_DROP counts on the head, or drops it (R120). -/
theorem retryOrDrop_fifo (g : GiveUp) {s : State} {r : TxRequest} {rest : List TxRequest} (hq : s.q = r :: rest) :
    FifoStep s.q (retryOrDrop g s).2.q := by
  rw [hq]
  obtain ⟨-, -, hkept, -⟩ | ⟨-, hdropped, -⟩ := retryOrDrop_cases g s r rest hq
  · rw [hkept]
    exact .replaceHead rest rfl rfl
  · rw [hdropped]
    exact .tail (r :: rest)

/-- Case READ (R119): the Read is completed and removed, or counted as a mismatch; then the dispatch. -/
theorem readReply_fifo (t : Telegram) {s : State} {r : TxRequest} {rest : List TxRequest} (hq : s.q = r :: rest) :
    FifoStep s.q (readReply t s).q := by
  rw [readReply_eq t s r rest hq]
  split
  · have hpopped : FifoStep s.q (countRx (popHead s)).q := .tail s.q
    exact hpopped.dispatch t r.forceRefresh
  · exact (retryOrDrop_fifo .readGaveUp hq).dispatch t false

/-- Case VALIDATE (R121): the Validate is removed and its post-read added, or counted and turned back into its Write, or
dropped. -/
theorem validateReply_fifo (t : Telegram) {s : State} {r : TxRequest} {rest : List TxRequest} (hq : s.q = r :: rest) :
    FifoStep s.q (validateReply t s).q := by
  rw [validateReply_eq t s r rest hq]
  split
  · have hpopped : FifoStep s.q (popHead s).q := .tail s.q
    exact hpopped.pushTail _
  · obtain ⟨-, hkept, hq', -⟩ | ⟨hdropped, -, -⟩ := retryOrDrop_cases .writeFailed s r rest hq
    · rw [if_pos hkept, restoreWrite_q, hq', hq]
      exact .replaceHead rest rfl rfl
    · rw [hdropped]
      exact retryOrDrop_fifo .writeFailed hq

/-! ### The events -/

theorem rx_fifo {s v : State} {f : Frame} {now : Time}
    (hexec : exec (decodeFrame s.cfg s.txStatus s.q.head? f now) s = .next v) : FifoStep s.q v.q := by
  have hsame : FifoStep s.q s.q := .refl s.q
  obtain rfl | ⟨-, rfl⟩ | ⟨-, -, rfl⟩ | ⟨-, -, rfl⟩ | ⟨-, -, rfl⟩ | ⟨-, -, -, rfl⟩ | ⟨t, -, -, -, htlg⟩ :=
    rx_cases hexec
  · exact hsame
  · split
    · exact sendHead_fifo (setBus _ s)
    · exact hsame
  · split
    · exact createValidate_fifo (pollAck (setBus _ s))
    · exact hsame
  · have hnack : (raise .writeNacked (pollAck s)).q = s.q.tail := by simp [raise]
    exact hnack ▸ .tail s.q
  · exact hsame
  · exact hsame
  · obtain ⟨-, rfl⟩ | ⟨-, ⟨-, rfl | rfl⟩ | ⟨r, rest, hq, hours⟩⟩ := htlg
    · exact FifoStep.dispatch (s := telegramPrelude t now s) hsame t false
    · exact FifoStep.dispatch (s := waitPrelude t now s) hsame t false
    · exact FifoStep.dispatch (s := waitPrelude t now s) hsame t false
    · obtain ⟨-, rfl⟩ | ⟨-, ⟨-, rfl⟩ | ⟨-, rfl⟩ | ⟨-, rfl⟩⟩ := hours
      · exact FifoStep.dispatch (s := popHead (waitPrelude t now s)) (.tail s.q) t false
      · exact readReply_fifo (s := waitPrelude t now s) t hq
      · exact validateReply_fifo (s := waitPrelude t now s) t hq
      · have hreported : (pollAck (raise .internalInconsistency (waitPrelude t now s))).q = s.q := by simp [raise]
        exact hreported ▸ hsame

/-- Only RESCAN and CLEAR_QUEUE do more to the queue than add at its tail (45_host_commands.md R168, R169). -/
theorem cmd_fifo {s v : State} {code : Byte} {o : CmdOperands} {now : Time}
    (hexec : exec (decodeCmd code o now) s = .next v) : (code = 0x06 ∨ code = 0x08) ∨ FifoStep s.q v.q := by
  have hsame : FifoStep s.q s.q := .refl s.q
  obtain ⟨rc, -, rfl⟩ | ⟨vals, rfl⟩ | ⟨-, r, rfl, -⟩ | ⟨hrescan, -⟩ | ⟨-, rfl⟩ | ⟨hclear, -⟩ | ⟨-, rfl⟩ |
    ⟨-, sc, hs, rfl, -⟩ := cmd_cases hexec
  · exact .inr hsame
  · exact .inr hsame
  · exact .inr (hsame.append [r])
  · exact .inl (.inl hrescan)
  · rw [answerPush_eq]
    exact .inr hsame.scanDevices
  · exact .inl (.inr hclear)
  · exact .inr hsame
  · exact .inr hsame

/-! ### The obligation -/

/-- Settles O54: a step is nothing, one RX operation or one host command, and each is a `FifoStep` or one of the two
commands. -/
theorem queueIsFifoWithHeadReinsertion : Obligations.QueueIsFifoWithHeadReinsertion := by
  intro s s' hstep
  obtain ⟨-, rfl⟩ | ⟨f, now, rest, u, v, -, -, rfl, hexec, rfl⟩ | ⟨code, o, now, rest, v, hinbox, hexec, rfl⟩ :=
    step_cases hstep
  · exact .inr (FifoStep.refl s'.q)
  · have hfifo : FifoStep s.q v.q := rx_fifo (s := setRxbuf f (setInbox rest s)) hexec
    exact .inr hfifo
  · obtain hcode | hfifo := cmd_fifo hexec
    · exact .inl ⟨code, o, now, rest, hinbox, hcode⟩
    · exact .inr hfifo

end Sys2Proof

/-! PROOFS. The dispatcher (43_dispatcher.md): O38 on the outputs and the state of DISPATCH, O39 on partial telegrams, O40
on telegrams that no handler entry matches. First the handler gate as a proposition and when there are no handler calls;
then DISPATCH as an operation. -/

namespace Sys2Proof

open Machine

/-! ### The handler gate -/

theorem slotActive_iff {c : Config} {sl : Slot} {src : DevId} :
    slotActive c sl src = true ↔ sl.id ≠ c.idNone ∧ src = sl.id := by
  simp [slotActive]

theorem srcActive_iff {src : DevId} {s : State} :
    srcActive src s = true ↔
      (s.boiler.id ≠ s.cfg.idNone ∧ src = s.boiler.id) ∨ (s.thermostat.id ≠ s.cfg.idNone ∧ src = s.thermostat.id) := by
  simp [srcActive, slotActive_iff]

/-- The gate of R142: equal types, and a Common entry or an active source. -/
theorem handlerGate_iff {t : Telegram} {s : State} {e : Handler} :
    handlerGate t s e = true ↔ e.type = t.type ∧ (e.scope = .common ∨ srcActive t.src s = true) := by
  simp [handlerGate]

/-! ### The handler calls -/

theorem handlerCalls_of_offset_zero {t : Telegram} (h : t.offset = 0) (refresh : Bool) (s : State) :
    handlerCalls t refresh s =
      (s.handlers.filter (handlerGate t s)).map fun e => .hcall e.cb e.scope (dispatchFields t refresh) :=
  if_pos h

/-- A partial telegram calls no handler (R145). -/
theorem handlerCalls_of_offset_ne_zero {t : Telegram} (h : t.offset ≠ 0) (refresh : Bool) (s : State) :
    handlerCalls t refresh s = [] :=
  if_neg h

/-- Where every entry of the type waits for a source that is not active, nobody is called (R147). -/
theorem handlerCalls_of_inactive {t : Telegram} {s : State}
    (h : ∀ e ∈ s.handlers, e.type = t.type → e.scope = .modelSpecific ∧ ¬ srcActive t.src s = true) (refresh : Bool) :
    handlerCalls t refresh s = [] := by
  by_cases hoffset : t.offset = 0
  · have hnone : s.handlers.filter (handlerGate t s) = [] := by
      refine List.filter_eq_nil_iff.2 fun e he hgate => ?_
      obtain ⟨htype, hcommon | hactive⟩ := handlerGate_iff.1 hgate
      · cases hcommon.symm.trans (h e he htype).1
      · exact (h e he htype).2 hactive
    rw [handlerCalls_of_offset_zero hoffset, hnone, List.map_nil]
  · exact handlerCalls_of_offset_ne_zero hoffset refresh s

/-! ### DISPATCH as an operation -/

/-- DISPATCH runs in every state (R142). -/
theorem exec_dispatch (t : Telegram) (refresh : Bool) (s : State) :
    exec (.dispatch t refresh) s = .next { routeVersion t s with
      outbox := s.outbox ++ .disp (dispatchFields t refresh) :: handlerCalls t refresh (routeVersion t s) } := by
  rw [← dispatch_eq]
  rfl

/-- Without handler calls DISPATCH adds its one `DISP` to what the Version routing leaves. -/
theorem exec_dispatch_of_no_calls {t : Telegram} {refresh : Bool} {s : State}
    (h : handlerCalls t refresh (routeVersion t s) = []) :
    exec (.dispatch t refresh) s =
      .next { routeVersion t s with outbox := s.outbox ++ [.disp (dispatchFields t refresh)] } := by
  rw [exec_dispatch, h]

/-! ### The obligations -/

/-- Settles O38: the routed state is `routeVersion`, which keeps the handler table and the configuration, so the gate of
R142 is judged on the table and the parameters of before and the slots of after. -/
theorem dispatchGatesHandlers : Obligations.DispatchGatesHandlers := by
  intro s t refresh
  refine ⟨routeVersion t s, handlerCalls t refresh (routeVersion t s), dispatchFields t refresh, rfl,
    fun hversion => if_pos hversion, fun hother => if_neg hother, exec_dispatch t refresh s,
    fun hpartial => handlerCalls_of_offset_ne_zero hpartial refresh _, fun hwhole => ?_⟩
  rw [handlerCalls_of_offset_zero hwhole, routeVersion_handlers]
  congr 2
  funext e
  rw [Bool.eq_iff_iff, decide_eq_true_iff, handlerGate_iff, srcActive_iff, routeVersion_cfg]

/-- Settles O39: a partial telegram has no handler calls. -/
theorem partialTelegramCallsNoHandler : Obligations.PartialTelegramCallsNoHandler := by
  intro s t refresh hpartial
  exact exec_dispatch_of_no_calls (handlerCalls_of_offset_ne_zero hpartial refresh (routeVersion t s))

/-- Settles O40: no entry of the type passes the gate in the routed state, so there are no handler calls. -/
theorem unknownTypeIsIgnored : Obligations.UnknownTypeIsIgnored := by
  intro s v t refresh hv hunmatched
  obtain rfl : v = routeVersion t s := hv
  refine exec_dispatch_of_no_calls (handlerCalls_of_inactive (fun e he htype => ?_) refresh)
  rw [routeVersion_handlers] at he
  obtain ⟨hscope, hboiler, hthermostat⟩ := hunmatched e he htype
  refine ⟨hscope, fun hactive => ?_⟩
  rw [srcActive_iff, routeVersion_cfg] at hactive
  obtain ⟨hid, hsrc⟩ | ⟨hid, hsrc⟩ := hactive
  · exact hboiler.elim hid (· hsrc)
  · exact hthermostat.elim hid (· hsrc)

end Sys2Proof

/-! PROOFS. Who writes the two timestamps and the handler table (44_bus_status.md R156; 10_state.md R25,
R29): O58. `timestamps` reads both timestamps at once. Each shared operation keeps the pair, so `rx_timestamps` is left with
the two writers: the own poll and the good telegram. No host command writes a timestamp, and only REG_HANDLER writes the
handler table. -/

namespace Sys2Proof

open Machine

/-! ### The shared operations keep both timestamps -/

/-- The two timestamps of the BusStatus block: `last_poll` and `last_rx` (10_state.md section 5). -/
def timestamps (s : State) : Option Time × Option Time := (s.bus.lastPoll, s.bus.lastRx)

theorem timestamps_congr {s u : State} (h : u.bus = s.bus) : timestamps u = timestamps s := by
  rw [timestamps, timestamps, h]

/-- A condition counts at most: of the BusStatus block it writes only counters (60_exceptions.md R182). -/
theorem raise_timestamps (c : Condition) (s : State) : timestamps (raise c s) = timestamps s := by
  cases c <;> simp [raise, timestamps]

theorem retryOrDrop_timestamps (g : GiveUp) (s : State) : timestamps (retryOrDrop g s).2 = timestamps s := by
  rw [timestamps, retryOrDrop_bus]
  rfl

theorem sendHead_timestamps (s : State) : timestamps (sendHead s) = timestamps s :=
  timestamps_congr (sendHead_bus s)

theorem dispatch_timestamps (t : Telegram) (refresh : Bool) (s : State) :
    timestamps (dispatch t refresh s) = timestamps s :=
  timestamps_congr (dispatch_bus t refresh s)

theorem readReply_timestamps (t : Telegram) {s : State} {r : TxRequest} {rest : List TxRequest} (hq : s.q = r :: rest) :
    timestamps (readReply t s) = timestamps s := by
  rw [readReply_eq t s r rest hq]
  split <;> rw [dispatch_timestamps]
  · rfl
  · exact retryOrDrop_timestamps _ s

theorem validateReply_timestamps (t : Telegram) {s : State} {r : TxRequest} {rest : List TxRequest}
    (hq : s.q = r :: rest) : timestamps (validateReply t s) = timestamps s := by
  have hretry := retryOrDrop_timestamps .writeFailed s
  rw [validateReply_eq t s r rest hq]
  split
  · exact timestamps_congr (pushTail_bus _ _)
  · split
    · exact (timestamps_congr (restoreWrite_bus _)).trans hretry
    · exact hretry

/-! ### The events -/

/-- An RX event keeps both timestamps, or it is the own poll and writes `last_poll`, or it is a frame of telegram length with
a good checksum and writes `last_rx`. -/
theorem rx_timestamps {s v : State} {f : Frame} {now : Time}
    (hexec : exec (decodeFrame s.cfg s.txStatus s.q.head? f now) s = .next v) :
    timestamps v = timestamps s ∨
    (f = [pollByte s.cfg] ∧ timestamps v = (some now, s.bus.lastRx)) ∨
    (minTelegramLen ≤ f.length ∧ verify s.cfg f = true ∧ timestamps v = (s.bus.lastPoll, some now)) := by
  obtain rfl | ⟨hpoll, rfl⟩ | ⟨-, -, rfl⟩ | ⟨-, -, rfl⟩ | ⟨-, -, rfl⟩ | ⟨hlen, hgood, -, rfl⟩ |
    ⟨t, hlen, hgood, -, htlg⟩ := rx_cases hexec
  · exact .inl rfl
  · refine .inr (.inl ⟨hpoll, ?_⟩)
    split
    · exact sendHead_timestamps _
    · rfl
  · refine .inl ?_
    split
    · simp [timestamps]
    · rfl
  · exact .inl (raise_timestamps .writeNacked (pollAck s))
  · exact .inl (raise_timestamps .checksumMismatch s)
  · exact .inr (.inr ⟨hlen, hgood, rfl⟩)
  · refine .inr (.inr ⟨hlen, hgood, ?_⟩)
    obtain ⟨-, rfl⟩ | ⟨-, ⟨-, rfl | rfl⟩ | ⟨r, rest, hq, hours⟩⟩ := htlg
    · exact dispatch_timestamps t false _
    · exact dispatch_timestamps t false _
    · exact dispatch_timestamps t false _
    · obtain ⟨-, rfl⟩ | ⟨-, ⟨-, rfl⟩ | ⟨-, rfl⟩ | ⟨-, rfl⟩⟩ := hours
      · exact dispatch_timestamps t false _
      · exact readReply_timestamps (s := waitPrelude t now s) t hq
      · exact validateReply_timestamps (s := waitPrelude t now s) t hq
      · exact raise_timestamps .internalInconsistency (waitPrelude t now s)

/-- No RX event writes the handler table (10_state.md R29). -/
theorem rx_handlers {s v : State} {f : Frame} {now : Time}
    (hexec : exec (decodeFrame s.cfg s.txStatus s.q.head? f now) s = .next v) : v.handlers = s.handlers := by
  obtain rfl | ⟨-, rfl⟩ | ⟨-, -, rfl⟩ | ⟨-, -, rfl⟩ | ⟨-, -, rfl⟩ | ⟨-, -, -, rfl⟩ | ⟨t, -, -, -, htlg⟩ := rx_cases hexec
  · rfl
  · split <;> simp
  · split <;> simp
  · simp
  · simp
  · rfl
  · obtain ⟨-, rfl⟩ | ⟨-, ⟨-, rfl | rfl⟩ | ⟨r, rest, -, hours⟩⟩ := htlg
    · simp
    · simp
    · simp
    · obtain ⟨-, rfl⟩ | ⟨-, ⟨-, rfl⟩ | ⟨-, rfl⟩ | ⟨-, rfl⟩⟩ := hours <;> simp

/-- A host command keeps both timestamps, RESET_COUNTERS too (45_host_commands.md R170); the handler table changes only on
REG_HANDLER (R171). -/
theorem cmd_timestamps_handlers {s v : State} {code : Byte} {o : CmdOperands} {now : Time}
    (hexec : exec (decodeCmd code o now) s = .next v) :
    timestamps v = timestamps s ∧ (v.handlers = s.handlers ∨ code = 0x0A) := by
  have hscan : ∀ u : State, u.bus = s.bus → u.handlers = s.handlers →
      timestamps (answerPush (scanDevices u)) = timestamps s ∧ (answerPush (scanDevices u)).handlers = s.handlers := by
    intro u hbus hhandlers
    rw [answerPush_eq]
    exact ⟨timestamps_congr ((pushAll_bus _ u).trans hbus), (pushAll_handlers _ u).trans hhandlers⟩
  obtain ⟨rc, -, rfl⟩ | ⟨vals, rfl⟩ | ⟨-, r, rfl, -⟩ | ⟨-, rfl⟩ | ⟨-, rfl⟩ | ⟨-, rfl⟩ | ⟨-, rfl⟩ |
    ⟨hreg, sc, hs, rfl, -⟩ := cmd_cases hexec
  · exact ⟨rfl, .inl rfl⟩
  · exact ⟨rfl, .inl rfl⟩
  · exact ⟨rfl, .inl rfl⟩
  · exact (hscan (clearQueue (resetSlots s)) rfl rfl).imp_right .inl
  · exact (hscan s rfl rfl).imp_right .inl
  · exact ⟨rfl, .inl rfl⟩
  · exact ⟨rfl, .inl rfl⟩
  · exact ⟨rfl, .inr hreg⟩

/-! ### The obligation -/

/-- Settles O58: a step is nothing, one RX operation or one host command. A changed timestamp leaves only its own writer of
`rx_timestamps`, a changed handler table only REG_HANDLER. -/
theorem onlyTheirEventsWriteTimestampsAndHandlers : Obligations.OnlyTheirEventsWriteTimestampsAndHandlers := by
  intro s s' hstep
  obtain ⟨-, rfl⟩ | ⟨f, now, rest, u, v, hinbox, -, rfl, hexec, rfl⟩ | ⟨code, o, now, rest, v, hinbox, hexec, rfl⟩ :=
    step_cases hstep
  case inl => exact ⟨(absurd rfl ·), (absurd rfl ·), (absurd rfl ·)⟩
  case inr.inl =>
    have hhandlers : v.handlers = s.handlers := rx_handlers (s := setRxbuf f (setInbox rest s)) hexec
    obtain hkept | ⟨hown, hpoll⟩ | ⟨hlen, hgood, hrx⟩ := rx_timestamps hexec
    · obtain ⟨hlastPoll, hlastRx⟩ := Prod.ext_iff.1 hkept
      exact ⟨(absurd hlastPoll ·), (absurd hlastRx ·), (absurd hhandlers ·)⟩
    · obtain ⟨hlastPoll, hlastRx⟩ := Prod.ext_iff.1 hpoll
      have hownPoll : s.inbox = .rx [pollByte s.cfg] now :: rest := hinbox.trans (congrArg (.rx · now :: rest) hown)
      exact ⟨fun _ => ⟨now, rest, hownPoll, hlastPoll⟩, (absurd hlastRx ·), (absurd hhandlers ·)⟩
    · obtain ⟨hlastPoll, hlastRx⟩ := Prod.ext_iff.1 hrx
      exact ⟨(absurd hlastPoll ·), fun _ => ⟨f, now, rest, hinbox, hlen, hgood, hlastRx⟩, (absurd hhandlers ·)⟩
  case inr.inr =>
    obtain ⟨hkept, hhandlers | rfl⟩ := cmd_timestamps_handlers hexec
    all_goals obtain ⟨hlastPoll, hlastRx⟩ := Prod.ext_iff.1 hkept
    · exact ⟨(absurd hlastPoll ·), (absurd hlastRx ·), (absurd hhandlers ·)⟩
    · exact ⟨(absurd hlastPoll ·), (absurd hlastRx ·), fun _ => ⟨o, now, rest, hinbox⟩⟩

end Sys2Proof

/-! PROOFS. Totality of the step (00_scope.md section 5; 60_exceptions.md R191): O52. Whatever a legal frame or a command
decodes to is well-formed and selected in the state it was decoded in, so `exec_completes` applies to it. -/

namespace Sys2Proof

open Machine

/-! ### What an event decodes to applies -/

/-- The case of a telegram is chosen by the status, the head and the destination that select it (42_tx_state_machine.md
R118; 30_encoding.md R73). -/
theorem telegramCase_applies {c : Config} {t : Telegram} (st : TxStatus) (head : Option TxRequest) (now : Time)
    (ht : t.wellFormed c = true) :
    wellFormed c (telegramCase c st head t now) = true ∧ selectedIn c st head (telegramCase c st head t now) = true := by
  cases st with
  | idle => exact ⟨ht, rfl⟩
  | wait =>
    cases head with
    | none => exact ⟨ht, rfl⟩
    | some r =>
      by_cases hours : t.dest = c.ownId
      · cases haction : r.action <;> simp [telegramCase, waitCase, wellFormed, selectedIn, ht, hours, haction]
      · simp [telegramCase, waitCase, wellFormed, selectedIn, ht, hours]

/-- A frame within the length bound selects an operation of its row of the receive map (30_encoding.md R58). -/
theorem decodeFrame_applies {c : Config} {f : Frame} (st : TxStatus) (head : Option TxRequest) (now : Time)
    (hmax : f.length ≤ c.maxFrameLen) :
    wellFormed c (decodeFrame c st head f now) = true ∧ selectedIn c st head (decodeFrame c st head f now) = true := by
  obtain rfl | ⟨b, rfl⟩ | ⟨htwo, hshort⟩ | ⟨hmin, hv⟩ | ⟨hmin, hv, hnone⟩ | ⟨hmin, hv, t, ht⟩ := frame_cases c f
  · exact ⟨rfl, rfl⟩
  · rw [decodeFrame_single]
    split_ifs with hpoll hack hnack
    · exact ⟨rfl, rfl⟩
    · exact ⟨rfl, beq_iff_eq.2 hack.2⟩
    · exact ⟨rfl, beq_iff_eq.2 hnack.2⟩
    · refine ⟨by simp [wellFormed, hpoll], ?_⟩
      cases st with
      | idle => rfl
      | wait => simp_all [selectedIn]
  · rw [decodeFrame_short c st head f now htwo hshort]
    exact ⟨by simp [wellFormed, htwo, hshort, hmax], rfl⟩
  · rw [decodeFrame_badcrc c st head f now hmin hv]
    exact ⟨by simp [wellFormed, telegramLength_of_bounds hmin hmax, hv], rfl⟩
  · rw [decodeFrame_noHeader c st head f now hmin hv hnone]
    exact ⟨by simp [wellFormed, telegramLength_of_bounds hmin hmax, hv, hnone], rfl⟩
  · rw [decodeFrame_of_header c st head f now t hmin hv ht]
    exact telegramCase_applies st head now (wellFormed_of_decodeHeader c f t hmin hmax ht)

/-- Every command code selects a command, an unassigned one CMD_ILLEGAL (30_encoding.md R74). -/
theorem decodeCmd_applies (c : Config) (st : TxStatus) (head : Option TxRequest) (code : Byte) (o : CmdOperands)
    (now : Time) :
    wellFormed c (decodeCmd code o now) = true ∧ selectedIn c st head (decodeCmd code o now) = true := by
  unfold decodeCmd
  split_ifs
  case neg =>
    have hcode : code = 0 ∨ 0x0A < code.toNat := by bv_omega
    exact ⟨by simpa [wellFormed] using hcode, rfl⟩
  all_goals exact ⟨rfl, rfl⟩

theorem finish_completes {o : Host.Outcome State Fault Refusal} (h : ∃ u, o = .next u) : ∃ s', finish o = .next s' := by
  obtain ⟨u, rfl⟩ := h
  exact ⟨endEvent u, rfl⟩

/-! ### The obligation -/

/-- Settles O52: what the pending event decodes to applies, so it completes; only a frame that is too long does not
decode. -/
theorem stepIsTotalOnLegalFrames : Obligations.StepIsTotalOnLegalFrames := by
  intro s
  refine ⟨fun hlegal => ?_, fun f now rest hinbox hlong => step_rx_long s f now rest hinbox hlong⟩
  cases hinbox : s.inbox with
  | nil => exact ⟨s, step_idle s hinbox⟩
  | cons e rest =>
    cases e with
    | rx f now =>
      have hmax := hlegal f now rest hinbox
      obtain ⟨hwf, hselected⟩ := decodeFrame_applies s.txStatus s.q.head? now hmax
      rw [step_rx s f now rest hinbox hmax]
      exact finish_completes (exec_completes _ (setRxbuf f (setInbox rest s)) hwf hselected)
    | cmd code o now =>
      obtain ⟨hwf, hselected⟩ := decodeCmd_applies s.cfg s.txStatus s.q.head? code o now
      rw [step_cmd s code o now rest hinbox]
      exact finish_completes (exec_completes _ (setInbox rest s) hwf hselected)

end Sys2Proof

/-! PROOFS. What only grows (10_state.md R24; 60_exceptions.md R191; log 3): O57. `Grows` says that the configuration is kept,
that outputs are only added and that no counter decreases. Two rules build it, one for an operation that keeps BusStatus and
one for an operation that emits nothing; each shared operation follows one of them, and `step_cases`, `rx_cases` and
`cmd_cases` say which operations a step is. -/

namespace Sys2Proof

open Machine

/-! ### The relation -/

/-- A later state: the configuration of the earlier one, its outputs and perhaps more, counters at least as great. -/
structure Grows (s u : State) : Prop where
  cfg : u.cfg = s.cfg
  outbox : s.outbox <+: u.outbox
  counters : s.bus.CountersLE u.bus

theorem Machine.BusStatus.CountersLE.refl (b : BusStatus) : b.CountersLE b := ⟨le_rfl, le_rfl, le_rfl, le_rfl⟩

theorem Machine.BusStatus.CountersLE.trans {a b c : BusStatus} (hab : a.CountersLE b) (hbc : b.CountersLE c) :
    a.CountersLE c := by
  obtain ⟨hrx, htx, hcrc, hretry⟩ := hab
  obtain ⟨hrx', htx', hcrc', hretry'⟩ := hbc
  exact ⟨hrx.trans hrx', htx.trans htx', hcrc.trans hcrc', hretry.trans hretry'⟩

theorem Grows.refl (s : State) : Grows s s := ⟨rfl, List.prefix_rfl, .refl s.bus⟩

/-- An operation that keeps BusStatus and adds outputs. -/
theorem Grows.emits {s u v : State} (h : Grows s u) (os : List Output) (hcfg : v.cfg = u.cfg) (hbus : v.bus = u.bus)
    (hout : v.outbox = u.outbox ++ os) : Grows s v :=
  ⟨hcfg.trans h.cfg, hout ▸ h.outbox.trans (List.prefix_append _ _), hbus ▸ h.counters⟩

/-- An operation that emits nothing and lowers no counter. -/
theorem Grows.counts {s u v : State} (h : Grows s u) (hcfg : v.cfg = u.cfg) (hout : v.outbox = u.outbox)
    (hbus : u.bus.CountersLE v.bus) : Grows s v :=
  ⟨hcfg.trans h.cfg, hout ▸ h.outbox, h.counters.trans hbus⟩

/-- What the relation does not look at may change. -/
theorem Grows.congr {s u v : State} (h : Grows s u) (hcfg : v.cfg = u.cfg) (hout : v.outbox = u.outbox)
    (hbus : v.bus = u.bus) : Grows s v :=
  h.counts hcfg hout (hbus ▸ .refl u.bus)

/-! ### The operations that emit -/

theorem Grows.pollAck {s u : State} (h : Grows s u) : Grows s (pollAck u) := h.emits _ rfl rfl rfl

theorem Grows.respond {s u : State} (h : Grows s u) (code : RespCode) (vals : RespValues) :
    Grows s (respond code vals u) :=
  h.emits _ rfl rfl rfl

theorem Grows.evtHead {s u : State} (h : Grows s u) (c : Condition) : Grows s (evtHead c u) :=
  h.emits _ (evtHead_cfg c u) (evtHead_bus c u) (evtHead_outbox c u)

theorem Grows.dispatch {s u : State} (h : Grows s u) (t : Telegram) (refresh : Bool) : Grows s (dispatch t refresh u) :=
  h.emits _ (dispatch_cfg t refresh u) (dispatch_bus t refresh u) (dispatch_outbox t refresh u)

theorem Grows.sendHead {s u : State} (h : Grows s u) (hq : u.q ≠ []) : Grows s (sendHead u) := by
  obtain ⟨f, hout⟩ := sendHead_outbox u hq
  exact h.emits _ (sendHead_cfg u) (sendHead_bus u) hout

theorem Grows.scanAnswer {s u : State} (h : Grows s u) : Grows s (answerPush (scanDevices u)) := by
  have hscan : Grows s (scanDevices u).2 :=
    h.congr (pushAll_cfg _ u) (pushAll_outbox _ u) (pushAll_bus _ u)
  rw [answerPush_eq]
  exact hscan.respond _ _

/-! ### The reply cases -/

/-- The good telegram's prelude writes a timestamp only (42_tx_state_machine.md R116). -/
theorem Grows.waitPrelude {s u : State} (h : Grows s u) (t : Telegram) (now : Time) : Grows s (waitPrelude t now u) :=
  h.counts rfl rfl (.refl u.bus)

/-- RETRY_OR_DROP counts the mismatch and reports a request it drops (R120). -/
theorem Grows.retryOrDrop {s u : State} (h : Grows s u) (g : GiveUp) {r : TxRequest} {rest : List TxRequest}
    (hq : u.q = r :: rest) : Grows s (retryOrDrop g u).2 := by
  have hcounted : Grows s (setBus { u.bus with retryCount := satInc u.bus.retryCount } u) :=
    h.counts rfl rfl ⟨le_rfl, le_rfl, le_rfl, le_satInc _⟩
  obtain ⟨-, -, -, hout⟩ | ⟨-, -, hout⟩ := retryOrDrop_cases g u r rest hq
  · exact hcounted.congr (retryOrDrop_cfg g u) hout (retryOrDrop_bus g u)
  · exact hcounted.emits _ (retryOrDrop_cfg g u) (retryOrDrop_bus g u) hout

/-- Case READ (R119): a success is counted, a mismatch too; then the dispatch. -/
theorem Grows.readReply {s u : State} (h : Grows s u) (t : Telegram) {r : TxRequest} {rest : List TxRequest}
    (hq : u.q = r :: rest) : Grows s (readReply t u) := by
  rw [readReply_eq t u r rest hq]
  split
  · have hcounted : Grows s (countRx (popHead u)) := h.counts rfl rfl ⟨le_satInc _, le_rfl, le_rfl, le_rfl⟩
    exact hcounted.dispatch t r.forceRefresh
  · exact (h.retryOrDrop .readGaveUp hq).dispatch t false

/-- Case VALIDATE (R121): only a mismatch counts or emits. -/
theorem Grows.validateReply {s u : State} (h : Grows s u) (t : Telegram) {r : TxRequest} {rest : List TxRequest}
    (hq : u.q = r :: rest) : Grows s (validateReply t u) := by
  have hretry := h.retryOrDrop .writeFailed hq
  rw [validateReply_eq t u r rest hq]
  split
  · exact h.congr (pushTail_cfg _ _) (pushTail_outbox _ _) (pushTail_bus _ _)
  · split
    · exact hretry.congr (restoreWrite_cfg _) (restoreWrite_outbox _) (restoreWrite_bus _)
    · exact hretry

/-! ### The events -/

theorem rx_grows {s v : State} {f : Frame} {now : Time}
    (hexec : exec (decodeFrame s.cfg s.txStatus s.q.head? f now) s = .next v) : Grows s v := by
  have hsame := Grows.refl s
  obtain rfl | ⟨-, rfl⟩ | ⟨-, -, rfl⟩ | ⟨-, -, rfl⟩ | ⟨-, -, rfl⟩ | ⟨-, -, -, rfl⟩ | ⟨t, -, -, -, htlg⟩ :=
    rx_cases hexec
  · exact hsame
  · have hpoll : Grows s (setBus { s.bus with lastPoll := some now } s) := hsame.counts rfl rfl (.refl s.bus)
    split_ifs with hsend
    · exact hpoll.sendHead hsend.1
    · exact hpoll.pollAck
  · have hcounted : Grows s (setBus { s.bus with txPackets := satInc s.bus.txPackets } s) :=
      hsame.counts rfl rfl ⟨le_rfl, le_satInc _, le_rfl, le_rfl⟩
    split
    · exact hcounted.pollAck.congr (createValidate_cfg _) (createValidate_outbox _) (createValidate_bus _)
    · exact hcounted.pollAck
  · exact (hsame.pollAck.evtHead .writeNacked).congr rfl rfl rfl
  · exact hsame.counts rfl rfl ⟨le_rfl, le_rfl, le_satInc _, le_rfl⟩
  · exact hsame.counts rfl rfl (.refl s.bus)
  · have hpre : Grows s (waitPrelude t now s) := hsame.waitPrelude t now
    obtain ⟨-, rfl⟩ | ⟨-, ⟨-, rfl | rfl⟩ | ⟨r, rest, hq, hours⟩⟩ := htlg
    · exact (hpre.congr (v := telegramPrelude t now s) rfl rfl rfl).dispatch t false
    · exact hpre.dispatch t false
    · exact (hpre.dispatch t false).pollAck
    · obtain ⟨-, rfl⟩ | ⟨-, ⟨-, rfl⟩ | ⟨-, rfl⟩ | ⟨-, rfl⟩⟩ := hours
      · exact (hpre.congr (v := popHead (waitPrelude t now s)) rfl rfl rfl).dispatch t false
      · exact (hpre.readReply t hq).pollAck
      · exact (hpre.validateReply t hq).pollAck
      · exact (hpre.evtHead .internalInconsistency).pollAck

/-- Only RESET_COUNTERS lowers a counter; it emits its answer like every command (45_host_commands.md R160, R170). -/
theorem cmd_grows {s v : State} {code : Byte} {o : CmdOperands} {now : Time}
    (hexec : exec (decodeCmd code o now) s = .next v) :
    Grows s v ∨ (code = 0x09 ∧ v.cfg = s.cfg ∧ s.outbox <+: v.outbox) := by
  have hsame := Grows.refl s
  obtain ⟨rc, -, rfl⟩ | ⟨vals, rfl⟩ | ⟨-, r, rfl, -⟩ | ⟨-, rfl⟩ | ⟨-, rfl⟩ | ⟨-, rfl⟩ | ⟨hreset, rfl⟩ |
    ⟨-, sc, hs, rfl, -⟩ := cmd_cases hexec
  · exact .inl (hsame.respond rc .none)
  · exact .inl (hsame.respond .ok vals)
  · exact .inl (hsame.emits _ rfl rfl rfl)
  · exact .inl (hsame.congr (v := clearQueue (resetSlots s)) rfl rfl rfl).scanAnswer
  · exact .inl hsame.scanAnswer
  · exact .inl (hsame.emits _ rfl rfl rfl)
  · exact .inr ⟨hreset, rfl, List.prefix_append _ _⟩
  · exact .inl (hsame.emits _ rfl rfl rfl)

/-! ### The obligation -/

/-- Settles O57: a step is nothing, one RX operation or one host command, and each but RESET_COUNTERS `Grows`. -/
theorem countersAndOutputsOnlyGrow : Obligations.CountersAndOutputsOnlyGrow := by
  intro s s' hstep
  obtain ⟨-, rfl⟩ | ⟨f, now, rest, u, v, -, -, rfl, hexec, rfl⟩ | ⟨code, o, now, rest, v, hinbox, hexec, rfl⟩ :=
    step_cases hstep
  · exact ⟨rfl, List.prefix_rfl, .inl (.refl s'.bus)⟩
  · have hgrows : Grows (setRxbuf f (setInbox rest s)) v := rx_grows hexec
    exact ⟨hgrows.cfg, hgrows.outbox, .inl hgrows.counters⟩
  · obtain hgrows | ⟨rfl, hcfg, hout⟩ := cmd_grows hexec
    · exact ⟨hgrows.cfg, hgrows.outbox, .inl hgrows.counters⟩
    · exact ⟨hcfg, hout, .inr ⟨o, now, rest, hinbox⟩⟩

end Sys2Proof

/-! PROOFS. The answer to an own poll (70_reset_and_hazards.md R214; 42_tx_state_machine.md R109): O56. Both arms of RX_POLL,
the head's frame and the poll-ack, emit one `TX` and keep BusStatus behind the poll's time; an own poll selects RX_POLL in
every state. -/

namespace Sys2Proof

open Machine

/-- RX_POLL emits one frame, the head's or the poll-ack, and writes of BusStatus only the poll's time. -/
theorem exec_rxPoll_emits_one_frame (now : Time) (s : State) :
    ∃ v f, exec (.rxPoll now) s = .next v ∧ v.outbox = s.outbox ++ [.tx f] ∧
      v.bus = { s.bus with lastPoll := some now } := by
  rw [exec_rxPoll]
  split_ifs with hsend
  · obtain ⟨f, hout⟩ := sendHead_outbox (setBus { s.bus with lastPoll := some now } s) hsend.1
    exact ⟨_, f, rfl, hout, sendHead_bus _⟩
  · exact ⟨_, encodeAck s.cfg, rfl, pollAck_outbox _, pollAck_bus _⟩

/-- The own poll byte is row 2 of the receive map, whatever the status and the head (30_encoding.md R58). -/
theorem decodeFrame_poll (c : Config) (st : TxStatus) (head : Option TxRequest) (now : Time) :
    decodeFrame c st head [pollByte c] now = .rxPoll now :=
  (decodeFrame_single c st head (pollByte c) now).trans (if_pos rfl)

/-- Settles O56: the step is RX_POLL and the end of the event, which emits nothing and keeps BusStatus. -/
theorem everyOwnPollIsAnsweredByOneFrame : Obligations.EveryOwnPollIsAnsweredByOneFrame := by
  intro s now rest hmax hinbox
  obtain ⟨v, f, hexec, hout, hbus⟩ :=
    exec_rxPoll_emits_one_frame now (setRxbuf [pollByte s.cfg] (setInbox rest s))
  have hstep : step s = .next (endEvent v) := by
    rw [step_rx s [pollByte s.cfg] now rest hinbox hmax, decodeFrame_poll, hexec]
    rfl
  exact ⟨endEvent v, f, hstep, hout, hbus⟩

end Sys2Proof

/-! PROOFS. Decode of encode (40_frame_codec.md R92; 30_encoding.md sections 1 to 3 and 6): O9 on the frames of the engine's
own requests, O11 on input events, O12 on transmitted frames; O4 on CLASSIFY and O13 on what the decoder selects. The frame of
a request and the frame of a standard telegram are one shape, four header bytes, data and checksum, so one lemma reads both. -/

namespace Sys2Proof

open Machine

/-! ### Standard frames -/

/-- A frame assembled from four header bytes and data decodes field by field (40_frame_codec.md R86). -/
theorem decodeHeader_withChecksum (c : Config) (b0 b1 b2 b3 : Byte) (data : List Byte) (h : b2.toNat < extMark) :
    decodeHeader c (withChecksum c ([b0, b1, b2, b3] ++ data)) =
      some ⟨devOf b0, devOf b1, readMark b1, TypeId.ofByte b2, b3, data, true⟩ :=
  decodeHeader_standard c b0 b1 b2 b3 _ data h

theorem ownByte_devOf (c : Config) : devOf (ownByte c) = c.ownId := devOf_setWidth c.ownId

/-- Format TX-RD decodes to its operands, with the read mark (30_encoding.md R69). -/
theorem decodeHeader_rdFrame (c : Config) (dest : DevId) (offset : Offset) (count : List Byte) {type : TypeId}
    (h : transmittable type = true) :
    decodeHeader c (rdFrame c dest (typeByte type) offset count) =
      some ⟨c.ownId, dest, true, type, offset, count, true⟩ := by
  obtain ⟨hext, hval⟩ := (transmittable_iff type).1 h
  rw [rdFrame, decodeHeader_withChecksum c _ _ _ _ _ (typeByte_lt type h), ownByte_devOf, devOf_marked, readMark_marked,
    ofByte_typeByte type hext hval]

/-- Format TX-WR decodes to its operands, without the read mark (R70). -/
theorem decodeHeader_wrFrame (c : Config) (dest : DevId) (offset : Offset) (payload : List Byte) {type : TypeId}
    (h : transmittable type = true) :
    decodeHeader c (wrFrame c dest (typeByte type) offset payload) =
      some ⟨c.ownId, dest, false, type, offset, payload, true⟩ := by
  obtain ⟨hext, hval⟩ := (transmittable_iff type).1 h
  rw [wrFrame, decodeHeader_withChecksum c _ _ _ _ _ (typeByte_lt type h), ownByte_devOf, devOf_setWidth,
    readMark_clear, ofByte_typeByte type hext hval]

/-- What the operand condition of ENCODE_RD says (40_frame_codec.md R88). -/
theorem readable_iff {r : TxRequest} :
    r.readable = true ↔
      (r.action = .read ∨ r.action = .validate) ∧ r.payload.length = 1 ∧ transmittable r.type = true := by
  simp [TxRequest.readable, and_assoc]

/-- What the operand condition of ENCODE_WR says (R89). -/
theorem writable_iff {c : Config} {r : TxRequest} :
    r.writable c = true ↔
      r.action = .write ∧ 1 ≤ r.payload.length ∧ r.payload.length ≤ c.maxPayload ∧ transmittable r.type = true := by
  simp [TxRequest.writable, and_assoc]

/-- Settles O9: both formats are assembled frames, which verify, and byte 2 is the type byte of a transmittable type. -/
theorem ownFramesDecodeToTheirRequests : Obligations.OwnFramesDecodeToTheirRequests := by
  intro c r
  refine ⟨fun hread => ?_, fun hwrite => ?_, fun _ => verify_withChecksum c r.payload⟩
  · obtain ⟨-, hone, htype⟩ := readable_iff.1 hread
    have hpayload : r.payload.take 1 = r.payload := List.take_of_length_le hone.le
    refine ⟨verify_withChecksum c _, ⟨typeByte r.type, rfl, typeByte_lt r.type htype⟩, ?_⟩
    rw [encodeRd, hpayload, decodeHeader_rdFrame c _ _ _ htype]
  · obtain ⟨-, -, -, htype⟩ := writable_iff.1 hwrite
    exact ⟨verify_withChecksum c _, ⟨typeByte r.type, rfl, typeByte_lt r.type htype⟩,
      decodeHeader_wrFrame c _ _ _ htype⟩

/-! ### Received telegrams -/

theorem devOf_headerByte (d : DevId) (m : Bool) : devOf (d.setWidth 8 ||| (if m then 0x80 else 0)) = d := by
  cases m
  · simp [devOf_setWidth]
  · exact devOf_marked d

theorem readMark_headerByte (d : DevId) (m : Bool) : readMark (d.setWidth 8 ||| (if m then 0x80 else 0)) = m := by
  cases m
  · simp [readMark_clear]
  · exact readMark_marked d

/-- What a well-formed Telegram is (10_state.md R15, R17). -/
theorem telegram_wellFormed_iff {c : Config} {t : Telegram} :
    t.wellFormed c = true ↔
      t.checksumValid = true ∧ (t.type.ext = true ∨ t.type.val.toNat ≤ 0xEF) ∧ t.data.length + 5 ≤ c.maxFrameLen := by
  simp [Telegram.wellFormed, and_assoc]

/-- The frame of a standard telegram is a legal one, verifies, and decodes to that telegram (30_encoding.md R62). -/
theorem encodeTelegram_decodes {c : Config} {t : Telegram} {f : Frame} (ht : t.wellFormed c = true)
    (hf : encodeTelegram c t = some f) :
    minTelegramLen ≤ f.length ∧ f.length ≤ c.maxFrameLen ∧ verify c f = true ∧ decodeHeader c f = some t := by
  obtain ⟨hchecksum, htype, hfit⟩ := telegram_wellFormed_iff.1 ht
  unfold encodeTelegram at hf
  split at hf
  next => cases hf
  next hext =>
    obtain rfl := Option.some.inj hf
    have hstd : t.type.ext = false := Bool.eq_false_iff.2 hext
    have hval : t.type.val.toNat ≤ 0xEF := htype.resolve_left hext
    have hbyte := typeByte_lt t.type ((transmittable_iff t.type).2 ⟨hstd, hval⟩)
    refine ⟨?_, ?_, verify_withChecksum c _, ?_⟩
    · simp only [length_withChecksum, List.length_append, List.length_cons, List.length_nil, minTelegramLen]; omega
    · simp only [length_withChecksum, List.length_append, List.length_cons, List.length_nil]; omega
    · rw [decodeHeader_withChecksum c _ _ _ _ _ hbyte, devOf_setWidth, devOf_headerByte, readMark_headerByte,
        ofByte_typeByte t.type hstd hval, ← hchecksum]

/-- The event that delivers a telegram decodes to the operation of that telegram that the status and the head select. -/
theorem decodeEvent_telegramEvent {c : Config} {t : Telegram} {now : Time} {e : Event} (st : TxStatus)
    (head : Option TxRequest) (ht : t.wellFormed c = true) (he : telegramEvent c t now = some (.event e)) :
    decodeEvent c st head e = .ok (telegramCase c st head t now) := by
  obtain ⟨f, hf, hevent⟩ := Option.map_eq_some_iff.1 he
  injection hevent with hevent
  subst hevent
  obtain ⟨hmin, hmax, hgood, hheader⟩ := encodeTelegram_decodes ht hf
  rw [decodeEvent_rx c st head f now hmax, decodeFrame_of_header c st head f now t hmin hgood hheader]

/-- The operations a telegram can select (30_encoding.md R58, R73). -/
def telegramOps (t : Telegram) (now : Time) : List Instr :=
  [.rxTlgIdle t now, .rxTlgWaitNotOurs t now, .rxTlgWaitRead t now, .rxTlgWaitValidate t now, .rxTlgWaitWrite t now,
    .rxTlgWaitOther t now]

/-- At most one operation of a telegram is selected in a status and with a head: the one `telegramCase` answers. -/
theorem telegramCase_of_selected {c : Config} {st : TxStatus} {head : Option TxRequest} {t : Telegram} {now : Time}
    {i : Instr} (hi : i ∈ telegramOps t now) (hs : selectedIn c st head i = true) :
    telegramCase c st head t now = i := by
  simp only [telegramOps, List.mem_cons, List.not_mem_nil, or_false] at hi
  cases st with
  | idle => rcases hi with rfl | rfl | rfl | rfl | rfl | rfl <;> simp_all [selectedIn, telegramCase]
  | wait =>
    cases head with
    | none => rcases hi with rfl | rfl | rfl | rfl | rfl | rfl <;> simp_all [selectedIn, telegramCase, waitCase]
    | some r =>
      rcases hi with rfl | rfl | rfl | rfl | rfl | rfl <;> simp_all [selectedIn, telegramCase, waitCase]

/-- A well-formed operation of a telegram carries a well-formed telegram. -/
theorem telegram_wellFormed_of_op {c : Config} {t : Telegram} {now : Time} {i : Instr} (hi : i ∈ telegramOps t now)
    (hw : wellFormed c i = true) : t.wellFormed c = true := by
  simp only [telegramOps, List.mem_cons, List.not_mem_nil, or_false] at hi
  rcases hi with rfl | rfl | rfl | rfl | rfl | rfl <;> simp_all [wellFormed]

/-- Decode of encode for the operations of a telegram. -/
theorem decodeEvent_of_telegramOp {c : Config} {st : TxStatus} {head : Option TxRequest} {t : Telegram} {now : Time}
    {i : Instr} {e : Event} (hi : i ∈ telegramOps t now) (hw : wellFormed c i = true)
    (hs : selectedIn c st head i = true) (he : telegramEvent c t now = some (.event e)) :
    decodeEvent c st head e = .ok i := by
  rw [decodeEvent_telegramEvent st head (telegram_wellFormed_of_op hi hw) he, telegramCase_of_selected hi hs]

/-! ### Received control bytes and discarded frames -/

/-- The two control bytes have bit 7 clear, so neither is the own poll (30_encoding.md R59, R60). -/
theorem ackByte_ne_pollByte (c : Config) : ackByte ≠ pollByte c := by
  intro h
  have hpoll := pollByte_ge c
  rw [← h] at hpoll
  exact absurd hpoll (by decide)

theorem nackByte_ne_pollByte (c : Config) : nackByte ≠ pollByte c := by
  intro h
  have hpoll := pollByte_ge c
  rw [← h] at hpoll
  exact absurd hpoll (by decide)

theorem decodeFrame_ack (c : Config) (head : Option TxRequest) (now : Time) :
    decodeFrame c .wait head [ackByte] now = .rxWack now := by
  rw [decodeFrame_single, if_neg (ackByte_ne_pollByte c), if_pos ⟨rfl, rfl⟩]

theorem decodeFrame_nack (c : Config) (head : Option TxRequest) (now : Time) :
    decodeFrame c .wait head [nackByte] now = .rxWnack now := by
  rw [decodeFrame_single, if_neg (nackByte_ne_pollByte c), if_neg (fun h => absurd h.1 (by decide)), if_pos ⟨rfl, rfl⟩]

/-- Any other byte is RX_OTHER1: not the own poll, and in Wait not a control byte either (R58 row 5). -/
theorem decodeFrame_other {c : Config} {st : TxStatus} {b : Byte} (head : Option TxRequest) (now : Time)
    (hpoll : b ≠ pollByte c) (hcontrol : st = .wait → b ≠ ackByte ∧ b ≠ nackByte) :
    decodeFrame c st head [b] now = .rxOther1 b now := by
  rw [decodeFrame_single, if_neg hpoll, if_neg (fun h => (hcontrol h.2).1 h.1), if_neg (fun h => (hcontrol h.2).2 h.1)]

/-- What the operand condition of RX_NOISE says (R58 rows 6 and 8). -/
theorem wellFormed_rxNoise_iff {c : Config} {f : Frame} {now : Time} :
    wellFormed c (.rxNoise f now) = true ↔
      f.length ≤ c.maxFrameLen ∧ ((2 ≤ f.length ∧ f.length < minTelegramLen) ∨
        (minTelegramLen ≤ f.length ∧ verify c f = true ∧ decodeHeader c f = none)) := by
  simp only [wellFormed, telegramLength, Bool.or_eq_true, Bool.and_eq_true, decide_eq_true_eq,
    Option.isNone_iff_eq_none]
  tauto

theorem wellFormed_rxBadcrc_iff {c : Config} {f : Frame} {now : Time} :
    wellFormed c (.rxBadcrc f now) = true ↔
      minTelegramLen ≤ f.length ∧ f.length ≤ c.maxFrameLen ∧ verify c f = false := by
  simp [wellFormed, telegramLength, and_assoc]

theorem decodeEvent_rxNoise {c : Config} {f : Frame} {now : Time} (st : TxStatus) (head : Option TxRequest)
    (h : wellFormed c (.rxNoise f now) = true) : decodeEvent c st head (.rx f now) = .ok (.rxNoise f now) := by
  obtain ⟨hmax, ⟨htwo, hshort⟩ | ⟨hmin, hgood, hnone⟩⟩ := wellFormed_rxNoise_iff.1 h
  · rw [decodeEvent_rx c st head f now hmax, decodeFrame_short c st head f now htwo hshort]
  · rw [decodeEvent_rx c st head f now hmax, decodeFrame_noHeader c st head f now hmin hgood hnone]

theorem decodeEvent_rxBadcrc {c : Config} {f : Frame} {now : Time} (st : TxStatus) (head : Option TxRequest)
    (h : wellFormed c (.rxBadcrc f now) = true) : decodeEvent c st head (.rx f now) = .ok (.rxBadcrc f now) := by
  obtain ⟨hmin, hmax, hbad⟩ := wellFormed_rxBadcrc_iff.1 h
  rw [decodeEvent_rx c st head f now hmax, decodeFrame_badcrc c st head f now hmin hbad]

/-! ### Host commands -/

/-- A code that no command has is CMD_ILLEGAL (30_encoding.md R74). -/
theorem decodeCmd_illegal {c : Config} {code : Byte} (o : CmdOperands) (now : Time)
    (h : wellFormed c (.cmdIllegal code now) = true) : decodeCmd code o now = .cmdIllegal code now := by
  have hcode : code = 0 ∨ 0x0A < code.toNat := by simpa [wellFormed] using h
  unfold decodeCmd
  split_ifs
  case neg => rfl
  all_goals subst code; exact absurd hcode (by decide)

/-! ### Every event -/

/-- Settles O11: a control byte or a discarded frame by its row of the receive map, a telegram by `telegramCase`, a command
by its code. An operation without an input event has no such encoding. -/
theorem eventsDecodeToTheirOperations : Obligations.EventsDecodeToTheirOperations := by
  intro c st head i e hone hw hs he
  have hsingle : ∀ b now, decodeEvent c st head (.rx [b] now) = .ok (decodeFrame c st head [b] now) :=
    fun b now => decodeEvent_rx c st head [b] now hone
  cases i
  case rxTlgIdle t now | rxTlgWaitNotOurs t now | rxTlgWaitRead t now |
      rxTlgWaitValidate t now | rxTlgWaitWrite t now | rxTlgWaitOther t now =>
    exact decodeEvent_of_telegramOp (t := t) (by simp [telegramOps]) hw hs he
  all_goals cases he
  case rxEmpty now => exact decodeEvent_rx c st head [] now (Nat.zero_le _)
  case rxPoll now => rw [hsingle, decodeFrame_poll]
  case rxWack now =>
    obtain rfl : st = .wait := beq_iff_eq.1 hs
    rw [hsingle, decodeFrame_ack]
  case rxWnack now =>
    obtain rfl : st = .wait := beq_iff_eq.1 hs
    rw [hsingle, decodeFrame_nack]
  case rxOther1 b now =>
    have hpoll : b ≠ pollByte c := bne_iff_ne.1 hw
    have hcontrol : st = .wait → b ≠ ackByte ∧ b ≠ nackByte := by
      rintro rfl
      simpa [selectedIn] using hs
    rw [hsingle, decodeFrame_other head now hpoll hcontrol]
  case rxNoise f now => exact decodeEvent_rxNoise st head hw
  case rxBadcrc f now => exact decodeEvent_rxBadcrc st head hw
  case cmdIllegal code now => exact congrArg Except.ok (decodeCmd_illegal .zero now hw)
  all_goals rfl

/-- Settles O13: a frame that decodes is within the length bound, so it selects the operation of its row; every command
code selects a command. -/
theorem decoderSelectsOnlyWhatApplies : Obligations.DecoderSelectsOnlyWhatApplies := by
  intro c st head e i hdecodes
  cases e with
  | rx f now =>
    by_cases hmax : f.length ≤ c.maxFrameLen
    · rw [decodeEvent_rx c st head f now hmax] at hdecodes
      obtain rfl := Except.ok.inj hdecodes
      exact decodeFrame_applies st head now hmax
    · rw [decodeEvent_rx_long c st head f now (Nat.lt_of_not_le hmax)] at hdecodes
      cases hdecodes
  | cmd code o now =>
    obtain rfl := Except.ok.inj hdecodes
    exact decodeCmd_applies c st head code o now

/-! ### Transmitted frames -/

/-- Bytes of format TX-RD are read as TX_RD (30_encoding.md R69). -/
theorem headerForm_rd (c : Config) (dest : DevId) {type : Byte} (offset : Offset) (count : Byte)
    (h : type.toNat < extMark) :
    headerForm c [ownByte c, dest.setWidth 8 ||| 0x80, type, offset, count] = some (.txRd dest type offset count) := by
  simp only [headerForm, h, and_self, if_true, readMark_marked, devOf_marked]

/-- Bytes of format TX-WR with a payload are read as TX_WR (R70). -/
theorem headerForm_wr (c : Config) (dest : DevId) {type : Byte} (offset : Offset) (b : Byte) (more : List Byte)
    (h : type.toNat < extMark) :
    headerForm c (ownByte c :: dest.setWidth 8 :: type :: offset :: b :: more) =
      some (.txWr dest type offset (b :: more)) := by
  simp only [headerForm, h, and_self, if_true, readMark_clear, Bool.false_eq_true, if_false, devOf_setWidth]

/-- Settles O12: the bytes before the checksum have the header form of the format, for TX_RAW none; TX_ACK is the one
frame of a single byte. -/
theorem transmittedFramesDecodeToTheirFormats : Obligations.TransmittedFramesDecodeToTheirFormats := by
  intro c i f hmax hw he hraw
  have htelegram : ∀ t now, telegramEvent c t now ≠ some (.tx f) := by
    intro t now h
    obtain ⟨g, -, hg⟩ := Option.map_eq_some_iff.1 h
    cases hg
  cases i
  case rxTlgIdle t now | rxTlgWaitNotOurs t now | rxTlgWaitRead t now |
      rxTlgWaitValidate t now | rxTlgWaitWrite t now | rxTlgWaitOther t now =>
    exact absurd he (htelegram t now)
  all_goals cases he
  case txRd dest type offset count =>
    have htype : type.toNat < extMark := of_decide_eq_true hw
    have hform := headerForm_rd c dest offset count htype
    have hlen : ([ownByte c, dest.setWidth 8 ||| 0x80, type, offset] ++ [count]).length + 1 ≤ c.maxFrameLen := hmax
    exact (decodeTx_withChecksum c _ (by simp) hlen).trans (by simp only [List.cons_append, List.nil_append, hform])
  case txWr dest type offset payload =>
    obtain ⟨⟨htype, hpos⟩, hfit⟩ : (type.toNat < extMark ∧ 1 ≤ payload.length) ∧ payload.length ≤ c.maxPayload := by
      simpa [wellFormed] using hw
    obtain ⟨b, more, rfl⟩ := List.exists_cons_of_length_pos hpos
    have hform := headerForm_wr c dest offset b more htype
    unfold Config.maxPayload at hfit
    have hlen : ([ownByte c, dest.setWidth 8, type, offset] ++ b :: more).length + 1 ≤ c.maxFrameLen := by
      simp only [List.length_append, List.length_cons, List.length_nil] at hfit ⊢
      omega
    exact (decodeTx_withChecksum c _ (by simp) hlen).trans (by simp only [List.cons_append, List.nil_append, hform])
  case txRaw bytes =>
    obtain ⟨hpos, hfit⟩ : 1 ≤ bytes.length ∧ bytes.length + 1 ≤ c.maxFrameLen := by simpa [wellFormed] using hw
    rw [decodeTx_withChecksum c bytes hpos hfit, hraw bytes rfl]
  case txAck =>
    have hlen : ¬ c.maxFrameLen < (encodeAck c).length := Nat.not_lt.2 (by simp [encodeAck]; omega)
    unfold decodeTx
    rw [if_neg hlen]
    exact if_pos rfl

/-! ### CLASSIFY -/

theorem classify_single (c : Config) (st : TxStatus) (b : Byte) :
    classify c st [b] = if b = pollByte c then .rxPoll else if b = ackByte ∧ st = .wait then .rxWack
      else if b = nackByte ∧ st = .wait then .rxWnack else .rxOther1 :=
  rfl

theorem classify_short {f : Frame} (c : Config) (st : TxStatus) (h2 : 2 ≤ f.length) (h5 : f.length < minTelegramLen) :
    classify c st f = .rxNoise := by
  match f with
  | [] => simp at h2
  | [_] => simp at h2
  | _ :: _ :: _ => exact if_pos h5

/-- Settles O4: one byte by `classify_single`, from five bytes on by VERIFY, the header and the status. -/
theorem classifyFollowsTheReceiveMap : Obligations.ClassifyFollowsTheReceiveMap := by
  intro s f
  refine ⟨classify s.cfg s.txStatus f, rfl, ?_, ?_, ?_, ?_, ?_, ?_, ?_, ?_, ?_, ?_⟩
  · rintro rfl
    rfl
  · rintro rfl
    exact if_pos rfl
  · rintro rfl hwait
    exact (if_neg (ackByte_ne_pollByte s.cfg)).trans (if_pos ⟨rfl, hwait⟩)
  · rintro rfl hwait
    exact (if_neg (nackByte_ne_pollByte s.cfg)).trans
      ((if_neg (fun h => absurd h.1 (by decide))).trans (if_pos ⟨rfl, hwait⟩))
  · rintro b rfl hpoll hcontrol
    exact (if_neg hpoll).trans
      ((if_neg (fun h => (hcontrol h.2).1 h.1)).trans (if_neg (fun h => (hcontrol h.2).2 h.1)))
  · intro htwo hfour
    exact classify_short s.cfg s.txStatus htwo (Nat.lt_succ_of_le hfour)
  · intro hmin hbad
    rw [classify_of_length _ _ f hmin, if_pos hbad]
  · intro hmin hgood hnone
    simp [classify_of_length _ _ f hmin, hgood, hnone]
  · intro hmin hgood hheader hidle
    simp [classify_of_length _ _ f hmin, hgood, Option.isSome_iff_ne_none.1 hheader, hidle]
  · intro hmin hgood hheader hwait
    simp [classify_of_length _ _ f hmin, hgood, Option.isSome_iff_ne_none.1 hheader, hwait]

end Sys2Proof

/-! PROOFS. The device registry (41_device_registry.md): O15 on ASSIGN, O16 on ON_VERSION, O18 on SCAN. ASSIGN in closed form
where it acts; ON_VERSION through `resolveVersion`; the scan's ids by induction over the records, one record at the end at a
time, which is the order `scanAdd` folds them in. -/

namespace Sys2Proof

open Machine

/-! ### ASSIGN -/

/-- ASSIGN where it acts: the slot, then what fits of the burst (41_device_registry.md R98). -/
theorem assign_of_assignable {k : Kind} {rec : DeviceRecord} {s : State} (ver : Byte × Byte)
    (h : assignable s.cfg (slotOf k s) rec = true) :
    assign k rec ver s =
      setQ (s.q ++ (burstRequests s.cfg k rec).take (s.cfg.queueDepth - s.q.length))
        (setSlot k (assignedSlot rec ver) s) := by
  unfold assign
  rw [if_pos h, pushAll_eq, setSlot_q, setSlot_cfg]

theorem assignable_of_free {c : Config} {sl : Slot} {rec : DeviceRecord} (hfree : sl.matched = false)
    (hid : sl.id = c.idNone ∨ sl.id = rec.typeId) : assignable c sl rec = true := by
  simpa [assignable, hfree] using hid

/-- A slot pre-configured for another address is left as it is (R98, conflict C3). -/
theorem assign_of_foreign {k : Kind} {rec : DeviceRecord} {s : State} (ver : Byte × Byte)
    (hnone : (slotOf k s).id ≠ s.cfg.idNone) (hother : (slotOf k s).id ≠ rec.typeId) : assign k rec ver s = s :=
  if_neg (by simp [assignable, hnone, hother])

/-- ASSIGN runs in every state. -/
theorem exec_assign (k : Kind) (rec : DeviceRecord) (ver : Byte × Byte) (s : State) :
    exec (.assign k rec ver) s = .next (assign k rec ver s) :=
  rfl

/-- Each outcome of ASSIGN on the slot of a kind. -/
theorem exec_assign_outcomes (k : Kind) (rec : DeviceRecord) (ver : Byte × Byte) (s : State) :
    ((slotOf k s).matched = true → exec (.assign k rec ver) s = .next s) ∧
    ((slotOf k s).id ≠ s.cfg.idNone → (slotOf k s).id ≠ rec.typeId → exec (.assign k rec ver) s = .next s) ∧
    ((slotOf k s).matched = false → ((slotOf k s).id = s.cfg.idNone ∨ (slotOf k s).id = rec.typeId) →
      exec (.assign k rec ver) s =
        .next (setQ (s.q ++ (burstRequests s.cfg k rec).take (s.cfg.queueDepth - s.q.length))
          (setSlot k (assignedSlot rec ver) s))) := by
  rw [exec_assign]
  refine ⟨fun hmatched => ?_, fun hnone hother => ?_, fun hfree hid => ?_⟩
  · rw [assign_of_matched k rec ver s hmatched]
  · rw [assign_of_foreign ver hnone hother]
  · rw [assign_of_assignable ver (assignable_of_free hfree hid)]

/-- Settles O15: the outcomes of ASSIGN on either slot. -/
theorem assignActsOnceOnAFreeOrMatchingSlot : Obligations.AssignActsOnceOnAFreeOrMatchingSlot := by
  intro s rec ver
  constructor
  · rintro sl rfl
    exact exec_assign_outcomes .boiler rec ver s
  · rintro sl rfl
    exact exec_assign_outcomes .thermostat rec ver s

/-! ### ON_VERSION -/

/-- A telegram that resolves to no record has no effect (R97). -/
theorem onVersion_of_unresolved {t : Telegram} {s : State} (h : resolveVersion s.cfg t = none) : onVersion t s = s := by
  simp [onVersion, h]

/-- Settles O16: which table resolves the product id, if any, decides which slot is assigned, if any. -/
theorem versionTelegramTriesBoilerThenThermostat : Obligations.VersionTelegramTriesBoilerThenThermostat := by
  intro s t ht htype
  have hwf : wellFormed s.cfg (.onVersion t) = true := by simp [wellFormed, ht, htype, typeVersion]
  rw [exec_onVersion hwf]
  refine ⟨fun hparse => ?_, fun pid ver hparse => ⟨fun rec hboiler => ?_, fun rec hboiler hthermostat => ?_,
    fun hboiler hthermostat => ?_⟩⟩
  · rw [onVersion_of_unresolved (by simp [resolveVersion, hparse])]
  · have hres : resolveVersion s.cfg t = some (.boiler, rec, ver) := by simp [resolveVersion, hparse, hboiler]
    exact ⟨_, exec_assign .boiler rec ver s, congrArg _ (onVersion_of_resolveVersion hres)⟩
  · have hres : resolveVersion s.cfg t = some (.thermostat, rec, ver) := by
      simp [resolveVersion, hparse, hboiler, hthermostat]
    exact ⟨_, exec_assign .thermostat rec ver s, congrArg _ (onVersion_of_resolveVersion hres)⟩
  · rw [onVersion_of_unresolved (by simp [resolveVersion, hparse, hboiler, hthermostat])]

/-! ### SCAN -/

/-- The scan's ids over some records, the first at the front. -/
def scanned (c : Config) (recs : List DeviceRecord) : List DevId := recs.foldl (scanAdd c) []

theorem scanned_append_singleton (c : Config) (recs : List DeviceRecord) (rec : DeviceRecord) :
    scanned c (recs ++ [rec]) = scanAdd c (scanned c recs) rec :=
  List.foldl_append

theorem mem_scanAdd {c : Config} {ids : List DevId} {rec : DeviceRecord} {d : DevId} :
    d ∈ scanAdd c ids rec ↔ d ∈ ids ∨ (d ≠ c.idNone ∧ rec.typeId = d) := by
  unfold scanAdd
  split
  next hnew =>
    rw [List.mem_append, List.mem_singleton]
    constructor
    · rintro (hold | rfl)
      · exact .inl hold
      · exact .inr ⟨hnew.1, rfl⟩
    · rintro (hold | ⟨-, rfl⟩)
      · exact .inl hold
      · exact .inr rfl
  next hknown =>
    refine ⟨.inl, ?_⟩
    rintro (hold | ⟨hid, rfl⟩)
    · exact hold
    · by_contra hnew
      exact hknown ⟨hid, hnew⟩

/-- The scan's ids are the device ids of the records, without `ID_NONE` (R100). -/
theorem mem_scanned {c : Config} {recs : List DeviceRecord} {d : DevId} :
    d ∈ scanned c recs ↔ d ≠ c.idNone ∧ ∃ rec ∈ recs, rec.typeId = d := by
  induction recs using List.reverseRecOn with
  | nil => simp [scanned]
  | append_singleton recs rec ih =>
    rw [scanned_append_singleton, mem_scanAdd, ih, ← and_or_left]
    simp [or_and_right, exists_or]

/-- The scan's ids stand in the order of their first records (R100): an id is added at the end, and only where no record
before has it. -/
theorem scanned_pairwise (c : Config) (recs : List DeviceRecord) :
    (scanned c recs).Pairwise fun a b => (recs.map (·.typeId)).idxOf a < (recs.map (·.typeId)).idxOf b := by
  induction recs using List.reverseRecOn with
  | nil => exact .nil
  | append_singleton recs rec ih =>
    have hknown : ∀ d ∈ scanned c recs, d ∈ recs.map (·.typeId) := fun d hd =>
      List.mem_map.2 (mem_scanned.1 hd).2
    have hkept : ∀ d ∈ scanned c recs,
        ((recs ++ [rec]).map (·.typeId)).idxOf d = (recs.map (·.typeId)).idxOf d := by
      intro d hd
      rw [List.map_append, List.idxOf_append_of_mem (hknown d hd)]
    have hold : (scanned c recs).Pairwise fun a b =>
        ((recs ++ [rec]).map (·.typeId)).idxOf a < ((recs ++ [rec]).map (·.typeId)).idxOf b :=
      ih.imp_of_mem fun ha hb hlt => by rwa [hkept _ ha, hkept _ hb]
    rw [scanned_append_singleton, scanAdd]
    split
    next hnew =>
      have hunseen : rec.typeId ∉ recs.map (·.typeId) := fun hmem =>
        hnew.2 (mem_scanned.2 ⟨hnew.1, List.mem_map.1 hmem⟩)
      refine List.pairwise_append.2 ⟨hold, List.pairwise_singleton _ _, fun a ha b hb => ?_⟩
      obtain rfl := List.mem_singleton.1 hb
      calc ((recs ++ [rec]).map (·.typeId)).idxOf a
          = (recs.map (·.typeId)).idxOf a := hkept a ha
        _ < (recs.map (·.typeId)).length := List.idxOf_lt_length_of_mem (hknown a ha)
        _ ≤ ((recs ++ [rec]).map (·.typeId)).idxOf rec.typeId := by
          rw [List.map_append, List.idxOf_append_of_notMem hunseen]
          exact Nat.le_add_right _ _
    next => exact hold

/-- Settles O18: the ids are `scanIds`, which are `scanned` over both tables; PushTail in sequence takes what fits. -/
theorem scanReadsEachKnownDeviceOnce : Obligations.ScanReadsEachKnownDeviceOnce := by
  intro s
  refine ⟨scanIds s.cfg, ?_, fun d => mem_scanned, scanned_pairwise s.cfg _⟩
  have hrun : exec .scanDevices s = .next (setResult (.full (scanDevices s).1) (scanDevices s).2) := rfl
  have hcount : (scanRequests s.cfg).length = (scanIds s.cfg).length := List.length_map _
  rw [hrun, scanDevices, pushAll_eq, pushAll_full, hcount]
  rfl

end Sys2Proof

/-! PROOFS. The transmit side of the state machine (42_tx_state_machine.md sections 2 and 3): O20 on SEND_HEAD, O21 on the
transmit formats, O22 and O23 on the answers to a Write, O24 on the frames without an effect. Each operation is first put
in closed form where it is selected. -/

namespace Sys2Proof

open Machine

/-! ### SEND_HEAD and the transmit formats -/

/-- A Read or Validate head is sent as ENCODE_RD's frame (42_tx_state_machine.md R110). -/
theorem sendHead_of_reading {s : State} {r : TxRequest} {rest : List TxRequest} (hq : s.q = r :: rest)
    (hr : r.action = .read ∨ r.action = .validate) : sendHead s = transmitAndWait (encodeRd s.cfg r) s := by
  obtain hr | hr := hr <;> simp [sendHead, hq, hr]

theorem sendHead_of_write {s : State} {r : TxRequest} {rest : List TxRequest} (hq : s.q = r :: rest)
    (hr : r.action = .write) : sendHead s = transmitAndWait (encodeWr s.cfg r) s := by
  simp [sendHead, hq, hr]

theorem sendHead_of_raw {s : State} {r : TxRequest} {rest : List TxRequest} (hq : s.q = r :: rest)
    (hr : r.action = .raw) : sendHead s = transmitRaw (encodeRaw s.cfg r) s := by
  simp [sendHead, hq, hr]

/-- A frame that is answered leaves the engine in Wait, TXBUF handed over. -/
theorem transmitAndWait_eq (f : Frame) (s : State) :
    transmitAndWait f s = { s with txStatus := .wait, txbuf := [], outbox := s.outbox ++ [.tx f] } :=
  rfl

/-- A Raw frame goes out with its request. -/
theorem transmitRaw_eq (f : Frame) {s : State} {r : TxRequest} {rest : List TxRequest} (hq : s.q = r :: rest) :
    transmitRaw f s = { s with q := rest, txbuf := [], outbox := s.outbox ++ [.tx f] } := by
  have htail : s.q.tail = rest := by rw [hq, List.tail_cons]
  rw [← htail]
  rfl

/-- Settles O20: SEND_HEAD by the head's action. -/
theorem headIsSentByItsAction : Obligations.HeadIsSentByItsAction := by
  intro s r rest hidle hq
  rw [exec_sendHead hq hidle]
  refine ⟨fun hr => ?_, fun hr => ?_, fun hr => ?_⟩
  · rw [sendHead_of_reading hq hr, transmitAndWait_eq]
  · rw [sendHead_of_write hq hr, transmitAndWait_eq]
  · rw [sendHead_of_raw hq hr, transmitRaw_eq _ hq]

theorem exec_txRd {s : State} {r : TxRequest} {rest : List TxRequest} {n : Byte} (hidle : s.txStatus = .idle)
    (hq : s.q = r :: rest) (hr : r.action = .read ∨ r.action = .validate) (hpayload : r.payload = [n]) :
    exec (.txRd r.dest (typeByte r.type) r.offset n) s =
      .next (transmitAndWait (rdFrame s.cfg r.dest (typeByte r.type) r.offset [n]) s) :=
  whenSelected_next (.txRd r.dest (typeByte r.type) r.offset n) s _ (by simp [selectedIn, hidle, hq, hr, hpayload])

theorem exec_txWr {s : State} {r : TxRequest} {rest : List TxRequest} (hidle : s.txStatus = .idle)
    (hq : s.q = r :: rest) (hr : r.action = .write) :
    exec (.txWr r.dest (typeByte r.type) r.offset r.payload) s =
      .next (transmitAndWait (wrFrame s.cfg r.dest (typeByte r.type) r.offset r.payload) s) :=
  whenSelected_next (.txWr r.dest (typeByte r.type) r.offset r.payload) s _ (by simp [selectedIn, hidle, hq, hr])

theorem exec_txRaw {s : State} {r : TxRequest} {rest : List TxRequest} (hidle : s.txStatus = .idle)
    (hq : s.q = r :: rest) (hr : r.action = .raw) :
    exec (.txRaw r.payload) s = .next (transmitRaw (withChecksum s.cfg r.payload) s) :=
  whenSelected_next (.txRaw r.payload) s _ (by simp [selectedIn, hidle, hq, hr])

/-- Settles O21: a format with the head's own fields is selected, and sends the frame it spells out. -/
theorem transmitFormatsSendTheHead : Obligations.TransmitFormatsSendTheHead := by
  intro s
  refine ⟨rfl, fun r rest hidle hq => ⟨?_, ?_, fun hr => ?_⟩⟩
  · rintro n h hr hpayload rfl
    exact exec_txRd hidle hq hr hpayload
  · rintro h hr rfl
    exact exec_txWr hidle hq hr
  · rw [exec_txRaw hidle hq hr, transmitRaw_eq _ hq]
    rfl

/-! ### The answers to a Write -/

theorem exec_rxWack (now : Time) {s : State} (hwait : s.txStatus = .wait) :
    exec (.rxWack now) s = .next
      (if s.q.head?.any (·.action == .write)
        then setStatus .idle (createValidate (pollAck (setBus { s.bus with txPackets := satInc s.bus.txPackets } s)))
        else pollAck (setBus { s.bus with txPackets := satInc s.bus.txPackets } s)) :=
  whenSelected_next (.rxWack now) s _ (beq_iff_eq.2 hwait)

theorem exec_rxWnack (now : Time) {s : State} (hwait : s.txStatus = .wait) :
    exec (.rxWnack now) s = .next (raise .writeNacked (pollAck s)) :=
  whenSelected_next (.rxWnack now) s _ (beq_iff_eq.2 hwait)

/-- Settles O22: the head alone decides whether the acknowledged state is also converted. -/
theorem writeAckConvertsTheWrite : Obligations.WriteAckConvertsTheWrite := by
  intro s p now hwait hp
  have hacked : pollAck (setBus { s.bus with txPackets := satInc s.bus.txPackets } s) = p := hp.symm
  have hpq : p.q = s.q := by rw [hp]
  rw [exec_rxWack now hwait, hacked]
  constructor
  · intro r rest hq hw
    have hwrite : s.q.head?.any (·.action == .write) = true := by simp [hq, hw]
    rw [if_pos hwrite, createValidate, updateHead_of_cons toValidate (hpq.trans hq)]
    rfl
  · intro hother
    have hnowrite : ¬ s.q.head?.any (·.action == .write) = true := by
      cases hq : s.q with
      | nil => simp
      | cons r rest => simpa using hother r rest hq
    rw [if_neg hnowrite]

/-- Settles O23: the poll-ack, then WriteNacked, which reports a head if there is one and removes it. -/
theorem writeNackDropsTheHead : Obligations.WriteNackDropsTheHead := by
  intro s now hwait
  rw [exec_rxWnack now hwait]
  constructor
  · intro r rest hq
    have htail : s.q.tail = rest := by rw [hq, List.tail_cons]
    rw [raise, evtHead_of_cons .writeNacked (s := pollAck s) hq, ← htail, List.append_cons]
    rfl
  · intro hq
    have htail : s.q = s.q.tail := by rw [hq, List.tail_nil]
    have hevt : evtHead .writeNacked (pollAck s) = pollAck s := by simp [evtHead, hq]
    rw [raise, hevt, popHead, pollAck_q, ← htail]
    rfl

/-! ### Frames without an effect -/

/-- Settles O24: neither operation looks at anything (R113; log 27). -/
theorem ignoredFramesDoNothing : Obligations.IgnoredFramesDoNothing :=
  fun _ _ _ => ⟨rfl, rfl⟩

end Sys2Proof

/-! PROOFS. The telegram in Wait (42_tx_state_machine.md section 4): O28, O29 and O30, O32 and O33, O35 on the cases of
RX_TLG_WAIT, O31 on RETRY_OR_DROP. Each case is put in closed form where it is selected; the reply cases go through
`readReply_eq` and `validateReply_eq`, the mismatches through `retryOrDrop_kept` and `retryOrDrop_dropped`. -/

namespace Sys2Proof

open Machine

/-! ### The cases where they are selected -/

theorem exec_rxTlgWaitNotOurs {t : Telegram} (now : Time) {s : State} {r : TxRequest} {rest : List TxRequest}
    (hwait : s.txStatus = .wait) (hq : s.q = r :: rest) (hforeign : t.dest ≠ s.cfg.ownId) :
    exec (.rxTlgWaitNotOurs t now) s = .next (dispatch t false (popHead (waitPrelude t now s))) :=
  whenSelected_next (.rxTlgWaitNotOurs t now) s _ (by simp [selectedIn, hwait, hq, hforeign])

theorem exec_rxTlgWaitRead {t : Telegram} (now : Time) {s : State} {r : TxRequest} {rest : List TxRequest}
    (hwait : s.txStatus = .wait) (hq : s.q = r :: rest) (hr : r.action = .read) (hours : t.dest = s.cfg.ownId) :
    exec (.rxTlgWaitRead t now) s = .next (pollAck (readReply t (waitPrelude t now s))) :=
  whenSelected_next (.rxTlgWaitRead t now) s _ (by simp [selectedIn, hwait, hq, hr, hours])

theorem exec_rxTlgWaitValidate {t : Telegram} (now : Time) {s : State} {r : TxRequest} {rest : List TxRequest}
    (hwait : s.txStatus = .wait) (hq : s.q = r :: rest) (hr : r.action = .validate) (hours : t.dest = s.cfg.ownId) :
    exec (.rxTlgWaitValidate t now) s = .next (pollAck (validateReply t (waitPrelude t now s))) :=
  whenSelected_next (.rxTlgWaitValidate t now) s _ (by simp [selectedIn, hwait, hq, hr, hours])

theorem exec_retryOrDrop (g : GiveUp) {s : State} {r : TxRequest} {rest : List TxRequest} (hq : s.q = r :: rest) :
    exec (.retryOrDrop g) s = .next (setResult (.kept (retryOrDrop g s).1) (retryOrDrop g s).2) :=
  whenSelected_next (.retryOrDrop g) s _ (by simp [selectedIn, hq])

/-- RX_TLG_WAIT.OTHER is selected on the empty queue, and on a Raw head by a telegram to this engine (R123). -/
theorem exec_rxTlgWaitOther {t : Telegram} (now : Time) {s : State} (hwait : s.txStatus = .wait)
    (hhead : ∀ r ∈ s.q.head?, r.action = .raw ∧ t.dest = s.cfg.ownId) :
    exec (.rxTlgWaitOther t now) s = .next (otherReply t (waitPrelude t now s)) := by
  refine whenSelected_next (.rxTlgWaitOther t now) s _ ?_
  cases hq : s.q with
  | nil => simp [selectedIn, hwait]
  | cons r rest =>
    obtain ⟨hraw, hours⟩ := hhead r (by simp [hq])
    simp [selectedIn, hwait, hraw, hours]

/-! ### The shared parts -/

theorem popHead_of_cons {s : State} {r : TxRequest} {rest : List TxRequest} (hq : s.q = r :: rest) :
    popHead s = setQ rest s := by
  rw [popHead, hq, List.tail_cons]

/-- The match test of a Read reply is source and type (R119). -/
theorem readMatches_iff {t : Telegram} {r : TxRequest} :
    readMatches t r = true ↔ t.src = r.dest ∧ t.type = r.type := by
  simp [readMatches]

/-- The match test of a Validate reply is its first data byte (R121). -/
theorem validateMatches_iff {t : Telegram} {r : TxRequest} :
    validateMatches t r = true ↔ ∃ more, t.data = r.compareValue :: more := by
  rw [validateMatches, beq_iff_eq, List.head?_eq_some_iff]

/-- The poll-ack behind a dispatch, with the OWN_ID of before it. -/
theorem pollAck_dispatch (t : Telegram) (refresh : Bool) (s : State) :
    pollAck (dispatch t refresh s) =
      { dispatch t refresh s with
        txbuf := [], outbox := (dispatch t refresh s).outbox ++ [.tx [s.cfg.ownId.setWidth 8]] } := by
  simp only [pollAck_eq, dispatch_cfg]

/-! ### Foreign telegrams and Read replies -/

/-- Settles O28: ReplyNotForUs removes the head, and DISPATCH transmits nothing. -/
theorem foreignTelegramDropsTheHead : Obligations.ForeignTelegramDropsTheHead := by
  intro s t now r rest hwait hq hforeign
  have hpop : popHead (waitPrelude t now s) = setQ rest (waitPrelude t now s) := popHead_of_cons hq
  refine ⟨dispatch t false (popHead (waitPrelude t now s)), ?_, exec_rxTlgWaitNotOurs now hwait hq hforeign, ?_⟩
  · rw [hpop]
    rfl
  · exact txFrames_emitted_dispatch t false (popHead (waitPrelude t now s))

/-- Settles O29: the match removes the head and counts it, and the dispatch has the request's refresh. -/
theorem matchingReplyCompletesTheRead : Obligations.MatchingReplyCompletesTheRead := by
  intro s t now r rest hwait hq hr hours hsrc htype
  have hpop : popHead (waitPrelude t now s) = setQ rest (waitPrelude t now s) := popHead_of_cons hq
  refine ⟨dispatch t r.forceRefresh (countRx (popHead (waitPrelude t now s))), ?_, ?_⟩
  · rw [hpop]
    rfl
  · rw [exec_rxTlgWaitRead now hwait hq hr hours, readReply_eq t (waitPrelude t now s) r rest hq,
      if_pos (readMatches_iff.2 ⟨hsrc, htype⟩), pollAck_dispatch]
    rfl

/-- A Read reply that does not match dispatches what RETRY_OR_DROP leaves. -/
theorem exec_rxTlgWaitRead_mismatch {t : Telegram} (now : Time) {s : State} {r : TxRequest} {rest : List TxRequest}
    (hwait : s.txStatus = .wait) (hq : s.q = r :: rest) (hr : r.action = .read) (hours : t.dest = s.cfg.ownId)
    (hother : t.src ≠ r.dest ∨ t.type ≠ r.type) :
    exec (.rxTlgWaitRead t now) s =
      .next (pollAck (dispatch t false (retryOrDrop .readGaveUp (waitPrelude t now s)).2)) := by
  have hmismatch : ¬ readMatches t r = true := fun hmatch =>
    hother.elim (· (readMatches_iff.1 hmatch).1) (· (readMatches_iff.1 hmatch).2)
  rw [exec_rxTlgWaitRead now hwait hq hr hours, readReply_eq t (waitPrelude t now s) r rest hq, if_neg hmismatch]

/-- Settles O30: below the budget the head is kept with its count, at the budget it is reported and dropped. -/
theorem mismatchingReplyRetriesOrGivesUp : Obligations.MismatchingReplyRetriesOrGivesUp := by
  rintro s t now r rest hwait hq hr hours hother p rfl
  rw [exec_rxTlgWaitRead_mismatch now hwait hq hr hours hother]
  refine ⟨fun hbelow => ⟨dispatch t false (retryOrDrop .readGaveUp (waitPrelude t now s)).2, ?_, ?_⟩,
    fun hlast => ⟨dispatch t false (retryOrDrop .readGaveUp (waitPrelude t now s)).2, ?_, ?_⟩⟩
  · rw [retryOrDrop_kept .readGaveUp (waitPrelude t now s) r rest hq hbelow]
    rfl
  · rw [pollAck_dispatch, retryOrDrop_cfg]
    rfl
  · rw [retryOrDrop_dropped .readGaveUp (waitPrelude t now s) r rest hq hlast]
    rfl
  · rw [pollAck_dispatch, retryOrDrop_cfg]
    rfl

/-- Settles O31: RETRY_OR_DROP in closed form, with its answer in the result. -/
theorem retryOrDropBoundsTheExchange : Obligations.RetryOrDropBoundsTheExchange := by
  intro s r rest g hq
  rw [exec_retryOrDrop g hq]
  refine ⟨fun hbelow => ?_, fun hlast => ?_⟩
  · rw [retryOrDrop_kept g s r rest hq hbelow]
    rfl
  · rw [retryOrDrop_dropped g s r rest hq hlast]
    cases g <;> rfl

/-! ### Validate replies -/

/-- Settles O32: the Validate is removed, and the place behind the rest of the queue takes its post-read. -/
theorem validatedWriteEnqueuesPostRead : Obligations.ValidatedWriteEnqueuesPostRead := by
  intro s t now r rest more hwait hq hr hours hroom hdata
  have hpop : popHead (waitPrelude t now s) = setQ rest (waitPrelude t now s) := popHead_of_cons hq
  rw [exec_rxTlgWaitValidate now hwait hq hr hours, validateReply_eq t (waitPrelude t now s) r rest hq,
    if_pos (validateMatches_iff.2 ⟨more, hdata⟩), hpop, pushTail_of_room _ (setQ rest (waitPrelude t now s)) hroom]
  rfl

/-- A Validate reply that does not match restores the Write that RETRY_OR_DROP keeps. -/
theorem exec_rxTlgWaitValidate_mismatch {t : Telegram} (now : Time) {s : State} {r : TxRequest} {rest : List TxRequest}
    (hwait : s.txStatus = .wait) (hq : s.q = r :: rest) (hr : r.action = .validate) (hours : t.dest = s.cfg.ownId)
    (hother : ∀ more, t.data ≠ r.compareValue :: more) :
    exec (.rxTlgWaitValidate t now) s = .next (pollAck
      (if (retryOrDrop .writeFailed (waitPrelude t now s)).1
        then restoreWrite (retryOrDrop .writeFailed (waitPrelude t now s)).2
        else (retryOrDrop .writeFailed (waitPrelude t now s)).2)) := by
  have hmismatch : ¬ validateMatches t r = true := fun hmatch =>
    (validateMatches_iff.1 hmatch).elim hother
  rw [exec_rxTlgWaitValidate now hwait hq hr hours, validateReply_eq t (waitPrelude t now s) r rest hq,
    if_neg hmismatch]

/-- Settles O33: below the budget the kept Validate is a Write again, at the budget the request is reported and dropped. -/
theorem failedValidateRestoresTheWriteOrFails : Obligations.FailedValidateRestoresTheWriteOrFails := by
  rintro s t now r rest hwait hq hr hours hother p rfl
  rw [exec_rxTlgWaitValidate_mismatch now hwait hq hr hours hother]
  refine ⟨fun hbelow => ?_, fun hlast => ?_⟩
  · rw [retryOrDrop_kept .writeFailed (waitPrelude t now s) r rest hq hbelow]
    rfl
  · rw [retryOrDrop_dropped .writeFailed (waitPrelude t now s) r rest hq hlast]
    simp only [Bool.false_eq_true, if_false]
    rw [pollAck_eq, List.append_assoc]
    rfl

/-! ### The totality cases -/

theorem otherReply_of_nil (t : Telegram) {s : State} (hq : s.q = []) :
    otherReply t s = if t.dest = s.cfg.ownId then pollAck (dispatch t false s) else dispatch t false s := by
  unfold otherReply
  rw [hq]

theorem otherReply_of_cons (t : Telegram) {s : State} {r : TxRequest} {rest : List TxRequest} (hq : s.q = r :: rest) :
    otherReply t s = pollAck (emit (.evt .internalInconsistency r.type r.dest) s) := by
  have hevt : raise .internalInconsistency s = emit (.evt .internalInconsistency r.type r.dest) s :=
    evtHead_of_cons _ hq
  unfold otherReply
  rw [← hevt, hq]

/-- Settles O35: the empty queue dispatches and answers a telegram to this engine; a Raw head is reported. -/
theorem unreachableWaitCasesAreDefined : Obligations.UnreachableWaitCasesAreDefined := by
  rintro s t now hwait p rfl
  constructor
  · intro hq
    have hrun := exec_rxTlgWaitOther (t := t) now hwait (by simp [hq])
    rw [otherReply_of_nil t (s := waitPrelude t now s) hq] at hrun
    refine ⟨dispatch t false (waitPrelude t now s), rfl, fun hours => ?_, fun hforeign => ?_⟩
    · rw [hrun, if_pos (c := t.dest = (waitPrelude t now s).cfg.ownId) hours, pollAck_dispatch]
      rfl
    · rw [hrun, if_neg (c := t.dest = (waitPrelude t now s).cfg.ownId) hforeign]
  · intro r rest hq hraw hours
    rw [exec_rxTlgWaitOther now hwait (by simp [hq, hraw, hours]),
      otherReply_of_cons t (s := waitPrelude t now s) hq, pollAck_eq, emit_outbox, List.append_assoc]
    rfl

end Sys2Proof

/-! PROOFS. The host commands and the bus monitor (45_host_commands.md; 44_bus_status.md): O42, O43 and O44 on the enqueue
commands, O45, O46 and O47 on the status, system and registration commands, O41 on the liveness predicates. The operand checks
are first read as propositions, and the three enqueue commands share one lemma about a request that is answered. -/

namespace Sys2Proof

open Machine

/-! ### The operand checks -/

theorem destInRange_iff {dest : Byte} : destInRange dest = true ↔ dest.toNat ≤ 0x7F :=
  decide_eq_true_iff

theorem enqReadOk_iff {type : TypeId} {dest : Byte} :
    enqReadOk type dest = true ↔ type.ext = false ∧ type.val.toNat ≤ 0xEF ∧ dest.toNat ≤ 0x7F := by
  simp [enqReadOk, transmittable_iff, destInRange_iff, and_assoc]

theorem enqWriteOk_iff {c : Config} {type : TypeId} {dest : Byte} {payload : List Byte} :
    enqWriteOk c type dest payload = true ↔
      type.ext = false ∧ type.val.toNat ≤ 0xEF ∧ dest.toNat ≤ 0x7F ∧ 1 ≤ payload.length ∧
        payload.length ≤ c.maxFrameLen - 5 := by
  simp only [enqWriteOk, Bool.and_eq_true, transmittable_iff, destInRange_iff, decide_eq_true_eq, and_assoc]
  exact Iff.rfl

theorem enqRawOk_iff {c : Config} {bytes : List Byte} :
    enqRawOk c bytes = true ↔ 1 ≤ bytes.length ∧ bytes.length ≤ c.maxFrameLen - 1 := by
  simp [enqRawOk]

/-! ### The enqueue commands -/

/-- An enqueue command: the request at the tail and OK, or QUEUE_FULL; BAD_OPERAND where the check fails
(45_host_commands.md R161 to R163, R172). -/
def enqueue (ok : Bool) (r : TxRequest) (s : State) : State :=
  if ok then answerPush (pushTail r s) else raise .badOperand s

theorem exec_enqRead (type : TypeId) (dest : Byte) (fr : Bool) (now : Time) (s : State) :
    exec (.enqRead type dest fr now) s =
      .next (enqueue (enqReadOk type dest) (readRequest s.cfg type (devOf dest) fr) s) :=
  rfl

theorem exec_enqWrite (type : TypeId) (dest : Byte) (offset : Offset) (payload : List Byte) (vt : TypeId) (now : Time)
    (s : State) :
    exec (.enqWrite type dest offset payload vt now) s =
      .next (enqueue (enqWriteOk s.cfg type dest payload) (writeRequest type (devOf dest) offset payload vt) s) :=
  rfl

theorem exec_enqRaw (bytes : List Byte) (now : Time) (s : State) :
    exec (.enqRaw bytes now) s = .next (enqueue (enqRawOk s.cfg bytes) (rawRequest bytes) s) :=
  rfl

theorem enqueue_of_refused {ok : Bool} (r : TxRequest) (s : State) (h : ¬ ok = true) :
    enqueue ok r s = { s with outbox := s.outbox ++ [.resp .badOperand .none] } :=
  if_neg h

theorem enqueue_of_room {ok : Bool} (r : TxRequest) {s : State} (h : ok = true)
    (hroom : s.q.length < s.cfg.queueDepth) :
    enqueue ok r s = { s with q := s.q ++ [r], outbox := s.outbox ++ [.resp .ok .none] } := by
  rw [enqueue, if_pos h, pushTail_of_room r s hroom]
  rfl

theorem enqueue_of_full {ok : Bool} (r : TxRequest) {s : State} (h : ok = true)
    (hfull : s.cfg.queueDepth ≤ s.q.length) :
    enqueue ok r s = { s with outbox := s.outbox ++ [.resp .queueFull .none] } := by
  rw [enqueue, if_pos h, pushTail_of_full r s hfull]
  rfl

/-- Settles O42: the check is R161's, and the request `readRequest`. -/
theorem enqReadAppendsOrRefuses : Obligations.EnqReadAppendsOrRefuses := by
  intro s type dest fr now
  rw [exec_enqRead]
  refine ⟨fun hbad => ?_, fun hext hval hdest => ?_⟩
  · have hrefused : ¬ enqReadOk type dest = true := by
      rw [enqReadOk_iff]
      rintro ⟨hext, hval, hdest⟩
      obtain h | h | h := hbad
      · simp [hext] at h
      · omega
      · omega
    rw [enqueue_of_refused _ s hrefused]
  · have hok := enqReadOk_iff.2 ⟨hext, hval, hdest⟩
    exact ⟨fun hroom => congrArg _ (enqueue_of_room _ hok hroom), fun hfull => congrArg _ (enqueue_of_full _ hok hfull)⟩

/-- Settles O43: the check is R162's, and the request `writeRequest`, whose compare value is the first payload byte. -/
theorem enqWriteAppendsOrRefuses : Obligations.EnqWriteAppendsOrRefuses := by
  intro s type dest offset payload vt now
  rw [exec_enqWrite]
  refine ⟨fun hbad => ?_, ?_⟩
  · have hrefused : ¬ enqWriteOk s.cfg type dest payload = true := by
      rw [enqWriteOk_iff]
      rintro ⟨hext, hval, hdest, hpos, hfit⟩
      obtain h | h | h | h | h := hbad
      · simp [hext] at h
      · omega
      · omega
      · simp [h] at hpos
      · omega
    rw [enqueue_of_refused _ s hrefused]
  · rintro b more hext hval hdest rfl hfit
    have hok := (enqWriteOk_iff (payload := b :: more)).2 ⟨hext, hval, hdest, Nat.succ_pos more.length, hfit⟩
    exact ⟨fun hroom => congrArg _ (enqueue_of_room _ hok hroom), fun hfull => congrArg _ (enqueue_of_full _ hok hfull)⟩

/-- Settles O44: the check is R163's, and the request `rawRequest`. -/
theorem enqRawAppendsOrRefuses : Obligations.EnqRawAppendsOrRefuses := by
  intro s bytes now
  rw [exec_enqRaw]
  refine ⟨fun hbad => ?_, fun hpos hfit => ?_⟩
  · have hrefused : ¬ enqRawOk s.cfg bytes = true := by
      rw [enqRawOk_iff]
      rintro ⟨hpos, hfit⟩
      obtain h | h := hbad
      · simp [h] at hpos
      · omega
    rw [enqueue_of_refused _ s hrefused]
  · have hok := enqRawOk_iff.2 ⟨hpos, hfit⟩
    exact ⟨fun hroom => congrArg _ (enqueue_of_room _ hok hroom), fun hfull => congrArg _ (enqueue_of_full _ hok hfull)⟩

/-! ### Status and system commands -/

/-- Settles O45: both commands answer what stands in the state (R164, R165). -/
theorem statusCommandsAreReads : Obligations.StatusCommandsAreReads :=
  fun _ _ => ⟨rfl, rfl⟩

/-- SCAN() on its own leaves its answer in the result. -/
theorem exec_scanDevices (s : State) :
    exec .scanDevices s = .next (setResult (.full (scanDevices s).1) (scanDevices s).2) :=
  rfl

/-- The answer of a scan: what SCAN() leaves, and one RESP (R166). -/
theorem answerPush_scanDevices (s : State) :
    answerPush (scanDevices s) = { (scanDevices s).2 with
      result := s.result, outbox := s.outbox ++ [.resp (if (scanDevices s).1 then .queueFull else .ok) .none] } := by
  rw [answerPush_eq, scanDevices, pushAll_eq]
  rfl

/-- Settles O46: CLEAR_QUEUE and RESET_COUNTERS as they stand; SCAN and RESCAN are one SCAN() and its answer, RESCAN's in the
state that is reset before (R166, R168 to R170). -/
theorem systemCommandsReset : Obligations.SystemCommandsReset := by
  intro s now
  refine ⟨rfl, rfl, ⟨_, (scanDevices s).1, exec_scanDevices s, rfl, ?_⟩,
    ⟨_, (scanDevices (clearQueue (resetSlots s))).1, exec_scanDevices _, rfl, ?_⟩⟩
  · exact congrArg _ (answerPush_scanDevices s)
  · exact congrArg _ (answerPush_scanDevices (clearQueue (resetSlots s)))

/-! ### Registration -/

/-- The callback of the first entry with the key is replaced in place (45_host_commands.md R171). -/
theorem replaceHandler_of_first {sc : Scope} {type : TypeId} (cb : CbId) {pre : List Handler} {h : Handler}
    (post : List Handler) (hpre : ∀ x ∈ pre, ¬ (x.scope = sc ∧ x.type = type)) (hsc : h.scope = sc)
    (htype : h.type = type) :
    replaceHandler sc type cb (pre ++ h :: post) = some (pre ++ ⟨sc, type, cb⟩ :: post) := by
  induction pre with
  | nil =>
    subst hsc htype
    exact if_pos ⟨rfl, rfl⟩
  | cons x pre ih =>
    obtain ⟨hx, hrest⟩ := List.forall_mem_cons.1 hpre
    simp [replaceHandler, hx, ih hrest]

theorem replaceHandler_of_absent {sc : Scope} {type : TypeId} (cb : CbId) {hs : List Handler}
    (habsent : ∀ x ∈ hs, ¬ (x.scope = sc ∧ x.type = type)) : replaceHandler sc type cb hs = none := by
  induction hs with
  | nil => rfl
  | cons x rest ih =>
    obtain ⟨hx, hrest⟩ := List.forall_mem_cons.1 habsent
    simp [replaceHandler, hx, ih hrest]

/-- REG_HANDLER with a scope in range registers (45_host_commands.md R171, R172). -/
theorem exec_regHandler {scope : Byte} {sc : Scope} (type : TypeId) (cb : CbId) (now : Time) (s : State)
    (h : scopeOfCode scope = some sc) :
    exec (.regHandler scope type cb now) s = .next (registerHandler sc type cb s) := by
  simp [exec, execRegHandler, h]

theorem exec_regHandler_refused {scope : Byte} (type : TypeId) (cb : CbId) (now : Time) (s : State)
    (h : scopeOfCode scope = none) : exec (.regHandler scope type cb now) s = .next (raise .badOperand s) := by
  simp [exec, execRegHandler, h]

theorem registerHandler_of_replaced {sc : Scope} {type : TypeId} {cb : CbId} {s : State} {hs : List Handler}
    (h : replaceHandler sc type cb s.handlers = some hs) :
    registerHandler sc type cb s = respond .ok .none (setHandlers hs s) := by
  simp [registerHandler, h]

theorem registerHandler_of_new {sc : Scope} {type : TypeId} {cb : CbId} {s : State}
    (h : replaceHandler sc type cb s.handlers = none) :
    registerHandler sc type cb s =
      if s.handlers.length < s.cfg.handlerSlots then respond .ok .none (setHandlers (s.handlers ++ [⟨sc, type, cb⟩]) s)
      else raise .tableFull s := by
  simp [registerHandler, h]

/-- Settles O47: the first entry with the key is replaced, else there is none to replace; the scope codes 0 and 1 are the
only ones. -/
theorem handlerRegistrationReplacesOrAppends : Obligations.HandlerRegistrationReplacesOrAppends := by
  intro s sc scope type cb now
  refine ⟨fun hscope => ?_, fun hrange => ?_, fun _ => rfl⟩
  · have hcode : scopeOfCode sc = some scope := by
      obtain ⟨rfl, rfl⟩ | ⟨rfl, rfl⟩ := hscope <;> rfl
    rw [exec_regHandler type cb now s hcode]
    refine ⟨fun pre h post hsplit hpre hsc htype => ?_, fun habsent => ?_⟩
    · have hfirst := replaceHandler_of_first cb post hpre hsc htype
      rw [registerHandler_of_replaced (hsplit ▸ hfirst)]
      rfl
    · rw [registerHandler_of_new (replaceHandler_of_absent cb habsent)]
      refine ⟨fun hroom => ?_, fun hfull => ?_⟩
      · rw [if_pos hroom]
        rfl
      · rw [if_neg (Nat.not_lt.2 hfull)]
        rfl
  · have hcode : scopeOfCode sc = none := by
      have h0 : sc ≠ 0 := by rintro rfl; exact absurd hrange (by decide)
      have h1 : sc ≠ 1 := by rintro rfl; exact absurd hrange (by decide)
      rw [scopeOfCode, if_neg h0, if_neg h1]
    rw [exec_regHandler_refused type cb now s hcode]
    rfl

/-! ### Liveness -/

/-- A timestamp is fresh by its age; one later than `now` has age 0 (44_bus_status.md R152 to R154). -/
theorem fresh_spec (ts : Option Time) {threshold : Nat} (hpos : 0 < threshold) (now : Time) :
    (ts = none → fresh ts threshold now = false) ∧
    ∀ t, ts = some t →
      (t.toNat ≤ now.toNat → (fresh ts threshold now = true ↔ now.toNat < t.toNat + threshold)) ∧
      (now.toNat < t.toNat → fresh ts threshold now = true) := by
  constructor
  · rintro rfl
    rfl
  · rintro t rfl
    rw [fresh_some, decide_eq_true_iff]
    refine ⟨fun hle => ?_, fun hlater => ?_⟩
    · have hage := age_of_le t now hle
      omega
    · rw [age_of_lt t now hlater]
      exact hpos

/-- Settles O41: both predicates are `fresh`, with their timestamp and threshold. -/
theorem livenessPredicatesAreAgeTests : Obligations.LivenessPredicatesAreAgeTests := by
  intro s now
  obtain ⟨hrxNone, hrx⟩ := fresh_spec s.bus.lastRx (threshold := busTimeout) (by decide) now
  obtain ⟨hpollNone, hpoll⟩ := fresh_spec s.bus.lastPoll (threshold := pollTimeout) (by decide) now
  exact ⟨connected s.bus now, txCapable s.bus now, rfl, rfl, hrxNone, hpollNone, hrx, hpoll⟩

end Sys2Proof

/-! PROOFS. Safety over a step: O53 on the status, O55 on the commands' answers, O59 on the slots, O60 on the length of
transmitted frames. Each follows one thing, the status, the answer, the slot or the outputs, through the shared operations;
`step_cases`, `rx_cases` and `cmd_cases` say which operations a step is. -/

namespace Sys2Proof

open Machine

/-! ### The status -/

/-- SEND_HEAD waits only for a head that is no Raw request (42_tx_state_machine.md R110). -/
theorem sendHead_txStatus_cases (s : State) :
    (sendHead s).txStatus = s.txStatus ∨
      ((sendHead s).txStatus = .wait ∧ ∃ r qs, s.q = r :: qs ∧ r.action ≠ .raw) := by
  cases hq : s.q with
  | nil => exact .inl (by rw [sendHead, hq])
  | cons r qs =>
    cases ha : r.action with
    | read => exact .inr ⟨by rw [sendHead_of_reading hq (.inl ha)]; rfl, r, qs, rfl, by simp [ha]⟩
    | validate => exact .inr ⟨by rw [sendHead_of_reading hq (.inr ha)]; rfl, r, qs, rfl, by simp [ha]⟩
    | write => exact .inr ⟨by rw [sendHead_of_write hq ha]; rfl, r, qs, rfl, by simp [ha]⟩
    | raw => exact .inl (by rw [sendHead_of_raw hq ha]; rfl)

/-- The status after an RX event: as it was; Wait after the own poll with a head that is no Raw request; Idle after the
write-ack on a Write, the write-nack, or a good telegram (42_tx_state_machine.md R127). -/
theorem rx_txStatus {s v : State} {f : Frame} {now : Time}
    (hexec : exec (decodeFrame s.cfg s.txStatus s.q.head? f now) s = .next v) :
    v.txStatus = s.txStatus ∨
    (v.txStatus = .wait ∧ f = [pollByte s.cfg] ∧ ∃ r qs, s.q = r :: qs ∧ r.action ≠ .raw) ∨
    (v.txStatus = .idle ∧
      ((f = [ackByte] ∧ ∃ r qs, s.q = r :: qs ∧ r.action = .write) ∨ f = [nackByte] ∨
        (minTelegramLen ≤ f.length ∧ verify s.cfg f = true ∧ (decodeHeader s.cfg f).isSome = true))) := by
  obtain rfl | ⟨hpoll, rfl⟩ | ⟨hack, -, rfl⟩ | ⟨hnack, -, rfl⟩ | ⟨-, -, rfl⟩ | ⟨-, -, -, rfl⟩ |
    ⟨t, hmin, hgood, hheader, htlg⟩ := rx_cases hexec
  · exact .inl rfl
  · split
    · obtain hkept | ⟨hwait, hhead⟩ := sendHead_txStatus_cases (setBus { s.bus with lastPoll := some now } s)
      · exact .inl hkept
      · exact .inr (.inl ⟨hwait, hpoll, hhead⟩)
    · exact .inl rfl
  · split
    next hwrite =>
      refine .inr (.inr ⟨rfl, .inl ⟨hack, ?_⟩⟩)
      cases hq : s.q with
      | nil => simp [hq] at hwrite
      | cons r qs => exact ⟨r, qs, rfl, by simpa [hq] using hwrite⟩
    next => exact .inl rfl
  · exact .inr (.inr ⟨rfl, .inr (.inl hnack)⟩)
  · exact .inl rfl
  · exact .inl rfl
  · have hvalid : minTelegramLen ≤ f.length ∧ verify s.cfg f = true ∧ (decodeHeader s.cfg f).isSome = true :=
      ⟨hmin, hgood, Option.isSome_of_eq_some hheader⟩
    obtain ⟨-, rfl⟩ | ⟨-, ⟨-, rfl | rfl⟩ | ⟨r, rest, -, hours⟩⟩ := htlg
    · exact .inl (dispatch_txStatus t false _)
    · exact .inr (.inr ⟨dispatch_txStatus t false _, .inr (.inr hvalid)⟩)
    · exact .inr (.inr ⟨dispatch_txStatus t false _, .inr (.inr hvalid)⟩)
    · refine .inr (.inr ⟨?_, .inr (.inr hvalid)⟩)
      obtain ⟨-, rfl⟩ | ⟨-, ⟨-, rfl⟩ | ⟨-, rfl⟩ | ⟨-, rfl⟩⟩ := hours
      · exact dispatch_txStatus t false _
      · exact readReply_txStatus t _
      · exact validateReply_txStatus t _
      · exact evtHead_txStatus .internalInconsistency _

/-- Only RESCAN and CLEAR_QUEUE write the status, and they set Idle (45_host_commands.md R168, R169). -/
theorem cmd_txStatus {s v : State} {code : Byte} {o : CmdOperands} {now : Time}
    (hexec : exec (decodeCmd code o now) s = .next v) :
    v.txStatus = s.txStatus ∨ (v.txStatus = .idle ∧ (code = 0x06 ∨ code = 0x08)) := by
  obtain ⟨rc, -, rfl⟩ | ⟨vals, rfl⟩ | ⟨-, r, rfl, -⟩ | ⟨hrescan, rfl⟩ | ⟨-, rfl⟩ | ⟨hclear, rfl⟩ | ⟨-, rfl⟩ |
    ⟨-, sc, hs, rfl, -⟩ := cmd_cases hexec
  · exact .inl rfl
  · exact .inl rfl
  · exact .inl rfl
  · rw [answerPush_scanDevices]
    exact .inr ⟨pushAll_txStatus _ _, .inl hrescan⟩
  · rw [answerPush_scanDevices]
    exact .inl (pushAll_txStatus _ _)
  · exact .inr ⟨rfl, .inr hclear⟩
  · exact .inl rfl
  · exact .inl rfl

/-- Settles O53: a step is nothing, one RX operation or one host command. Where the status changed, `rx_txStatus` and
`cmd_txStatus` leave the events that write the new one. -/
theorem statusMovesOnlyAsTheTableSays : Obligations.StatusMovesOnlyAsTheTableSays := by
  intro s s' hstep
  constructor
  · intro hidle hwait
    obtain ⟨-, rfl⟩ | ⟨f, now, rest, u, v, hinbox, -, rfl, hexec, rfl⟩ | ⟨code, o, now, rest, v, -, hexec, rfl⟩ :=
      step_cases hstep
    · cases hidle.symm.trans hwait
    · obtain hsame | ⟨-, hpoll, r, qs, hq, hr⟩ | ⟨hset, -⟩ := rx_txStatus hexec
      · cases hwait.symm.trans (hsame.trans hidle)
      · exact ⟨now, rest, r, qs, hinbox.trans (congrArg (.rx · now :: rest) hpoll), hq, hr⟩
      · cases hwait.symm.trans hset
    · obtain hsame | ⟨hset, -⟩ := cmd_txStatus hexec
      · cases hwait.symm.trans (hsame.trans hidle)
      · cases hwait.symm.trans hset
  · intro hwait hidle
    obtain ⟨-, rfl⟩ | ⟨f, now, rest, u, v, hinbox, -, rfl, hexec, rfl⟩ | ⟨code, o, now, rest, v, hinbox, hexec, rfl⟩ :=
      step_cases hstep
    · cases hwait.symm.trans hidle
    · obtain hsame | ⟨hset, -⟩ | ⟨-, ⟨rfl, r, qs, hq, hr⟩ | rfl | ⟨hmin, hgood, hheader⟩⟩ := rx_txStatus hexec
      · cases hidle.symm.trans (hsame.trans hwait)
      · cases hidle.symm.trans hset
      · exact .inl ⟨now, rest, r, qs, hinbox, hq, hr⟩
      · exact .inr (.inl ⟨now, rest, hinbox⟩)
      · exact .inr (.inr (.inl ⟨f, now, rest, hinbox, hmin, hgood, hheader⟩))
    · obtain hsame | ⟨-, hcode⟩ := cmd_txStatus hexec
      · cases hidle.symm.trans (hsame.trans hwait)
      · exact .inr (.inr (.inr ⟨code, o, now, rest, hinbox, hcode⟩))

/-! ### The commands' answers -/

/-- Every command emits one RESP; one that is refused does nothing else, except for the scan that did not fit
(45_host_commands.md R160). -/
theorem cmd_answers {s v : State} {code : Byte} {o : CmdOperands} {now : Time}
    (hexec : exec (decodeCmd code o now) s = .next v) :
    ∃ rc vals, v.outbox = s.outbox ++ [.resp rc vals] ∧
      (rc ≠ .ok → code ≠ 0x06 → code ≠ 0x07 → v = respond rc vals s) := by
  obtain ⟨rc, -, rfl⟩ | ⟨vals, rfl⟩ | ⟨-, r, rfl, -⟩ | ⟨hrescan, rfl⟩ | ⟨hscan, rfl⟩ | ⟨-, rfl⟩ | ⟨-, rfl⟩ |
    ⟨-, sc, hs, rfl, -⟩ := cmd_cases hexec
  · exact ⟨rc, .none, rfl, fun _ _ _ => rfl⟩
  · exact ⟨.ok, vals, rfl, fun hbad => absurd rfl hbad⟩
  · exact ⟨.ok, .none, rfl, fun hbad => absurd rfl hbad⟩
  · rw [answerPush_scanDevices]
    exact ⟨_, .none, rfl, fun _ hother => absurd hrescan hother⟩
  · rw [answerPush_scanDevices]
    exact ⟨_, .none, rfl, fun _ _ hother => absurd hscan hother⟩
  · exact ⟨.ok, .none, rfl, fun hbad => absurd rfl hbad⟩
  · exact ⟨.ok, .none, rfl, fun hbad => absurd rfl hbad⟩
  · exact ⟨.ok, .none, rfl, fun hbad => absurd rfl hbad⟩

/-- Settles O55: the decoded command applies, so it completes; its answer, timestamps and status are those of `cmd_answers`,
`cmd_timestamps_handlers` and `cmd_txStatus`. -/
theorem commandsAnswerExactlyOnce : Obligations.CommandsAnswerExactlyOnce := by
  intro s code o now rest hinbox
  obtain ⟨hwf, hselected⟩ := decodeCmd_applies s.cfg s.txStatus s.q.head? code o now
  obtain ⟨v, hexec⟩ := exec_completes _ (setInbox rest s) hwf hselected
  obtain ⟨rc, vals, hout, hrefused⟩ := cmd_answers hexec
  obtain ⟨htimes, -⟩ := cmd_timestamps_handlers hexec
  obtain ⟨hlastPoll, hlastRx⟩ := Prod.ext_iff.1 htimes
  have hstep : step s = .next (endEvent v) := by
    rw [step_cmd s code o now rest hinbox, hexec]
    rfl
  refine ⟨endEvent v, rc, vals, hstep, hout, hlastRx, hlastPoll, fun hnorescan hnoclear => ?_,
    fun hbad hnorescan hnoscan => ?_⟩
  · obtain hsame | ⟨-, hcode⟩ := cmd_txStatus hexec
    · exact hsame
    · exact absurd hcode (not_or.2 ⟨hnorescan, hnoclear⟩)
  · rw [hrefused hbad hnorescan hnoscan]
    rfl

/-! ### The slots -/

/-- The slot of a kind is as it was, or a Version telegram matched it. -/
def SlotMove (k : Kind) (t : Telegram) (s u : State) : Prop :=
  slotOf k u = slotOf k s ∨ (t.type = typeVersion ∧ (slotOf k s).matched = false ∧ (slotOf k u).matched = true)

/-- ASSIGN of one kind leaves the slot of the other alone (41_device_registry.md R98). -/
theorem slotOf_assign_of_ne {k k' : Kind} (h : k ≠ k') (rec : DeviceRecord) (ver : Byte × Byte) (s : State) :
    slotOf k (assign k' rec ver s) = slotOf k s := by
  cases k <;> cases k' <;> simp_all [slotOf]

/-- ASSIGN writes an unmatched slot only, and matches it. -/
theorem slotOf_assign_cases (k k' : Kind) (rec : DeviceRecord) (ver : Byte × Byte) (s : State) :
    slotOf k (assign k' rec ver s) = slotOf k s ∨
      ((slotOf k s).matched = false ∧ (slotOf k (assign k' rec ver s)).matched = true) := by
  by_cases hkind : k = k'
  · subst hkind
    rw [slotOf_assign]
    split
    next hacts =>
      have hfree : (slotOf k s).matched = false := by
        rw [assignable, Bool.and_eq_true, Bool.not_eq_true'] at hacts
        exact hacts.1
      exact .inr ⟨hfree, rfl⟩
    next => exact .inl rfl
  · exact .inl (slotOf_assign_of_ne hkind rec ver s)

/-- DISPATCH moves a slot by the Version routing alone (43_dispatcher.md R143). -/
theorem dispatch_slotMove (k : Kind) (t : Telegram) (refresh : Bool) (s : State) :
    SlotMove k t s (dispatch t refresh s) := by
  have hslot : slotOf k (dispatch t refresh s) = slotOf k (routeVersion t s) := by
    rw [dispatch_eq]
    exact slotOf_congr rfl rfl
  rw [SlotMove, hslot, routeVersion]
  split
  next hversion =>
    obtain hsame | ⟨k', rec, ver, -, hassign⟩ := onVersion_cases t s
    · exact .inl (by rw [hsame])
    · rw [hassign]
      exact (slotOf_assign_cases k k' rec ver s).imp_right (⟨hversion, ·⟩)
  next => exact .inl rfl

/-- A move is judged by the slots alone. -/
theorem SlotMove.congr {k : Kind} {t : Telegram} {s u s' u' : State} (h : SlotMove k t s u)
    (hbefore : slotOf k s' = slotOf k s) (hafter : slotOf k u' = slotOf k u) : SlotMove k t s' u' := by
  rwa [SlotMove, hbefore, hafter]

/-- Only DISPATCH moves a slot in case READ (42_tx_state_machine.md R119). -/
theorem readReply_slotMove (k : Kind) (t : Telegram) {s : State} {r : TxRequest} {rest : List TxRequest}
    (hq : s.q = r :: rest) : SlotMove k t s (readReply t s) := by
  rw [readReply_eq t s r rest hq]
  split
  · exact (dispatch_slotMove k t r.forceRefresh (countRx (popHead s))).congr (slotOf_congr rfl rfl) rfl
  · exact (dispatch_slotMove k t false (retryOrDrop .readGaveUp s).2).congr (slotOf_congr (by simp) (by simp)) rfl

/-- A slot moves on an RX event only by a good telegram with a header. -/
theorem rx_slotMove (k : Kind) {s v : State} {f : Frame} {now : Time}
    (hexec : exec (decodeFrame s.cfg s.txStatus s.q.head? f now) s = .next v) :
    slotOf k v = slotOf k s ∨
      ∃ t, verify s.cfg f = true ∧ decodeHeader s.cfg f = some t ∧ SlotMove k t s v := by
  obtain rfl | ⟨-, rfl⟩ | ⟨-, -, rfl⟩ | ⟨-, -, rfl⟩ | ⟨-, -, rfl⟩ | ⟨-, -, -, rfl⟩ | ⟨t, -, hgood, hheader, htlg⟩ :=
    rx_cases hexec
  · exact .inl rfl
  · refine .inl (slotOf_congr ?_ ?_) <;> split <;> simp
  · refine .inl (slotOf_congr ?_ ?_) <;> split <;> simp
  · exact .inl (slotOf_congr (by simp) (by simp))
  · exact .inl (slotOf_congr (by simp) (by simp))
  · exact .inl (slotOf_congr rfl rfl)
  · refine .inr ⟨t, hgood, hheader, ?_⟩
    have hpre : slotOf k s = slotOf k (waitPrelude t now s) := slotOf_congr rfl rfl
    obtain ⟨-, rfl⟩ | ⟨-, ⟨-, rfl | rfl⟩ | ⟨r, rest, hq, hours⟩⟩ := htlg
    · exact (dispatch_slotMove k t false (telegramPrelude t now s)).congr (slotOf_congr rfl rfl) rfl
    · exact (dispatch_slotMove k t false (waitPrelude t now s)).congr hpre rfl
    · exact (dispatch_slotMove k t false (waitPrelude t now s)).congr hpre (slotOf_congr rfl rfl)
    · obtain ⟨-, rfl⟩ | ⟨-, ⟨-, rfl⟩ | ⟨-, rfl⟩ | ⟨-, rfl⟩⟩ := hours
      · exact (dispatch_slotMove k t false (popHead (waitPrelude t now s))).congr (slotOf_congr rfl rfl) rfl
      · exact (readReply_slotMove k t (s := waitPrelude t now s) hq).congr hpre (slotOf_congr rfl rfl)
      · exact .inl (slotOf_congr (validateReply_boiler t _) (validateReply_thermostat t _))
      · exact .inl (slotOf_congr (raise_boiler _ _) (raise_thermostat _ _))

/-- Of the commands only RESCAN writes the slots: it resets them (45_host_commands.md R169). -/
theorem cmd_slots (k : Kind) {s v : State} {code : Byte} {o : CmdOperands} {now : Time}
    (hexec : exec (decodeCmd code o now) s = .next v) :
    slotOf k v = slotOf k s ∨ (code = 0x06 ∧ slotOf k v = slotOf k (resetSlots s)) := by
  have hscan : ∀ u : State, slotOf k (answerPush (scanDevices u)) = slotOf k u := fun u => by
    rw [answerPush_scanDevices]
    exact slotOf_congr (pushAll_boiler _ u) (pushAll_thermostat _ u)
  obtain ⟨rc, -, rfl⟩ | ⟨vals, rfl⟩ | ⟨-, r, rfl, -⟩ | ⟨hrescan, rfl⟩ | ⟨-, rfl⟩ | ⟨-, rfl⟩ | ⟨-, rfl⟩ |
    ⟨-, sc, hs, rfl, -⟩ := cmd_cases hexec
  · exact .inl (slotOf_congr rfl rfl)
  · exact .inl (slotOf_congr rfl rfl)
  · exact .inl (slotOf_congr rfl rfl)
  · exact .inr ⟨hrescan, (hscan _).trans (slotOf_congr rfl rfl)⟩
  · exact .inl (hscan s)
  · exact .inl (slotOf_congr rfl rfl)
  · exact .inl (slotOf_congr rfl rfl)
  · exact .inl (slotOf_congr rfl rfl)

/-- Settles O59: a changed slot leaves only the matching of `rx_slotMove`, or RESCAN. -/
theorem slotsAreWrittenOnlyByVersionOrRescan : Obligations.SlotsAreWrittenOnlyByVersionOrRescan := by
  intro s s' k hstep hchanged
  obtain ⟨-, rfl⟩ | ⟨f, now, rest, u, v, hinbox, -, rfl, hexec, rfl⟩ | ⟨code, o, now, rest, v, hinbox, hexec, rfl⟩ :=
    step_cases hstep
  case inl => exact absurd rfl hchanged
  case inr.inl =>
    have hbefore : slotOf k (setRxbuf f (setInbox rest s)) = slotOf k s := slotOf_congr rfl rfl
    have hafter : slotOf k (endEvent v) = slotOf k v := slotOf_congr rfl rfl
    have hwritten : slotOf k v ≠ slotOf k (setRxbuf f (setInbox rest s)) := by rwa [hbefore, ← hafter]
    obtain hsame | ⟨t, hgood, hheader, hsame | ⟨hversion, hfree, hmatched⟩⟩ := rx_slotMove k hexec
    · exact absurd hsame hwritten
    · exact absurd hsame hwritten
    · rw [hbefore] at hfree
      rw [← hafter] at hmatched
      exact .inr ⟨hfree, hmatched, f, now, rest, t, hinbox, hgood, hheader, hversion⟩
  case inr.inr =>
    have hbefore : slotOf k (setInbox rest s) = slotOf k s := slotOf_congr rfl rfl
    have hafter : slotOf k (endEvent v) = slotOf k v := slotOf_congr rfl rfl
    obtain hsame | ⟨rfl, hreset⟩ := cmd_slots k hexec
    · exact absurd (hafter.trans (hsame.trans hbefore)) hchanged
    · refine .inl ⟨o, now, rest, hinbox, (hafter.trans hreset).trans ?_⟩
      cases k <;> rfl

/-! ### The length of transmitted frames -/

/-- A frame the transport takes: 1 to `MAX_FRAME_LEN` bytes (70_reset_and_hazards.md section 3). -/
def Fits (c : Config) (f : Frame) : Prop := 1 ≤ f.length ∧ f.length ≤ c.maxFrameLen

/-- The outputs of a state are the earlier ones and more, among them only frames that fit. -/
def AddsFitting (c : Config) (s u : State) : Prop :=
  ∃ os, u.outbox = s.outbox ++ os ∧ ∀ f ∈ txFrames os, Fits c f

theorem AddsFitting.refl (c : Config) (s : State) : AddsFitting c s s := ⟨[], by simp, by simp⟩

/-- Outputs among which every frame fits may follow. -/
theorem AddsFitting.emits {c : Config} {s u v : State} {os : List Output} (h : AddsFitting c s u)
    (hout : v.outbox = u.outbox ++ os) (hos : ∀ f ∈ txFrames os, Fits c f) : AddsFitting c s v := by
  obtain ⟨os', hout', hos'⟩ := h
  refine ⟨os' ++ os, by rw [hout, hout', List.append_assoc], ?_⟩
  rw [txFrames_append]
  exact List.forall_mem_append.2 ⟨hos', hos⟩

theorem AddsFitting.congr {c : Config} {s u v : State} (h : AddsFitting c s u) (hout : v.outbox = u.outbox) :
    AddsFitting c s v := by
  rwa [AddsFitting, hout]

/-- Outputs that are no frames may follow. -/
theorem AddsFitting.reports {c : Config} {s u v : State} {os : List Output} (h : AddsFitting c s u)
    (hout : v.outbox = u.outbox ++ os) (hquiet : txFrames os = []) : AddsFitting c s v :=
  h.emits hout (by simp [hquiet])

theorem AddsFitting.transmit {c : Config} {s u : State} {f : Frame} (h : AddsFitting c s u) (hf : Fits c f) :
    AddsFitting c s (transmit f u) :=
  h.emits (transmit_outbox f u) (by simpa [txFrames] using hf)

/-- The poll-ack is one byte. -/
theorem AddsFitting.pollAck {c : Config} {s u : State} (h : AddsFitting c s u) (hc : c.WF) :
    AddsFitting c s (pollAck u) :=
  h.transmit ⟨le_rfl, (Nat.le_add_left 1 5).trans hc.maxFrameLen_ge⟩

theorem AddsFitting.dispatch {c : Config} {s u : State} (h : AddsFitting c s u) (t : Telegram) (refresh : Bool) :
    AddsFitting c s (dispatch t refresh u) :=
  h.reports (dispatch_outbox t refresh u) (txFrames_handlerCalls t refresh _)

theorem AddsFitting.evtHead {c : Config} {s u : State} (h : AddsFitting c s u) (code : Condition) :
    AddsFitting c s (evtHead code u) := by
  refine h.reports (evtHead_outbox code u) ?_
  cases u.q.head? <;> rfl

theorem AddsFitting.retryOrDrop {c : Config} {s u : State} (h : AddsFitting c s u) (g : GiveUp) {r : TxRequest}
    {rest : List TxRequest} (hq : u.q = r :: rest) : AddsFitting c s (retryOrDrop g u).2 := by
  obtain ⟨-, -, -, hout⟩ | ⟨-, -, hout⟩ := retryOrDrop_cases g u r rest hq
  · exact h.congr hout
  · exact h.reports hout rfl

theorem AddsFitting.readReply {c : Config} {s u : State} (h : AddsFitting c s u) (t : Telegram) {r : TxRequest}
    {rest : List TxRequest} (hq : u.q = r :: rest) : AddsFitting c s (readReply t u) := by
  rw [readReply_eq t u r rest hq]
  split
  · exact (h.congr (v := countRx (popHead u)) rfl).dispatch t r.forceRefresh
  · exact (h.retryOrDrop .readGaveUp hq).dispatch t false

theorem AddsFitting.validateReply {c : Config} {s u : State} (h : AddsFitting c s u) (t : Telegram) {r : TxRequest}
    {rest : List TxRequest} (hq : u.q = r :: rest) : AddsFitting c s (validateReply t u) := by
  have hretry := h.retryOrDrop .writeFailed hq
  rw [validateReply_eq t u r rest hq]
  split
  · exact h.congr (pushTail_outbox _ _)
  · split
    · exact hretry.congr (restoreWrite_outbox _)
    · exact hretry

/-- Four header bytes, one count byte and the checksum: six bytes at most (30_encoding.md R69). -/
theorem encodeRd_fits {c : Config} (hc : c.WF) (r : TxRequest) : Fits c (encodeRd c r) := by
  have hmax := hc.maxFrameLen_ge
  simp only [Fits, encodeRd, rdFrame, length_withChecksum, List.length_append, List.length_cons, List.length_nil,
    List.length_take]
  omega

/-- The payload bound of a Write leaves room for header and checksum (30_encoding.md R70; 10_state.md R19). -/
theorem encodeWr_fits {c : Config} (hc : c.WF) {r : TxRequest} (hr : r.payload.length ≤ c.maxPayload) :
    Fits c (encodeWr c r) := by
  have hmax := hc.maxFrameLen_ge
  unfold Config.maxPayload at hr
  simp only [Fits, encodeWr, wrFrame, length_withChecksum, List.length_append, List.length_cons, List.length_nil]
  omega

theorem encodeRaw_fits {c : Config} {r : TxRequest} (hr : r.payload.length + 1 ≤ c.maxFrameLen) :
    Fits c (encodeRaw c r) := by
  rw [Fits, encodeRaw, length_withChecksum]
  exact ⟨Nat.le_add_left _ _, hr⟩

/-- SEND_HEAD of a request within its bounds transmits a frame that fits. -/
theorem AddsFitting.sendHead {s u : State} (h : AddsFitting u.cfg s u) (hinv : Inv u) :
    AddsFitting u.cfg s (sendHead u) := by
  cases hq : u.q with
  | nil =>
    have hnone : Machine.sendHead u = u := by rw [Machine.sendHead, hq]
    rwa [hnone]
  | cons r rest =>
    have hpayload := (hinv.requests_ok r (by simp [hq])).payload_ok
    unfold TxRequest.payloadOk at hpayload
    have hreading := h.transmit (encodeRd_fits hinv.cfg_ok r)
    cases ha : r.action <;> simp only [ha] at hpayload
    case read => rw [sendHead_of_reading hq (.inl ha)]; exact hreading
    case validate => rw [sendHead_of_reading hq (.inr ha)]; exact hreading
    case write => rw [sendHead_of_write hq ha]; exact h.transmit (encodeWr_fits hinv.cfg_ok hpayload.2)
    case raw => rw [sendHead_of_raw hq ha]; exact h.transmit (encodeRaw_fits hpayload.2)

theorem rx_addsFitting {s v : State} {f : Frame} {now : Time} (hinv : Inv s)
    (hexec : exec (decodeFrame s.cfg s.txStatus s.q.head? f now) s = .next v) : AddsFitting s.cfg s v := by
  have hc := hinv.cfg_ok
  have hsame := AddsFitting.refl s.cfg s
  obtain rfl | ⟨-, rfl⟩ | ⟨-, -, rfl⟩ | ⟨-, -, rfl⟩ | ⟨-, -, rfl⟩ | ⟨-, -, -, rfl⟩ | ⟨t, -, -, -, htlg⟩ :=
    rx_cases hexec
  · exact hsame
  · have hpoll : AddsFitting s.cfg s (setBus { s.bus with lastPoll := some now } s) := hsame.congr rfl
    split
    · exact hpoll.sendHead (setBus_keeps_inv _ hinv)
    · exact hpoll.pollAck hc
  · have hack := (hsame.congr (v := setBus { s.bus with txPackets := satInc s.bus.txPackets } s) rfl).pollAck hc
    split
    · exact hack.congr (createValidate_outbox _)
    · exact hack
  · exact ((hsame.pollAck hc).evtHead .writeNacked).congr rfl
  · exact hsame.congr rfl
  · exact hsame.congr rfl
  · have hpre : AddsFitting s.cfg s (waitPrelude t now s) := hsame.congr rfl
    obtain ⟨-, rfl⟩ | ⟨-, ⟨-, rfl | rfl⟩ | ⟨r, rest, hq, hours⟩⟩ := htlg
    · exact (hsame.congr (v := telegramPrelude t now s) rfl).dispatch t false
    · exact hpre.dispatch t false
    · exact (hpre.dispatch t false).pollAck hc
    · obtain ⟨-, rfl⟩ | ⟨-, ⟨-, rfl⟩ | ⟨-, rfl⟩ | ⟨-, rfl⟩⟩ := hours
      · exact (hpre.congr (v := popHead (waitPrelude t now s)) rfl).dispatch t false
      · exact (hpre.readReply t hq).pollAck hc
      · exact (hpre.validateReply t hq).pollAck hc
      · exact (hpre.evtHead .internalInconsistency).pollAck hc

/-- Settles O60: an RX operation adds fitting frames, a command one RESP. -/
theorem transmittedFramesFit : Obligations.TransmittedFramesFit := by
  intro s s' hinv hstep
  suffices hadds : AddsFitting s.cfg s s' by
    obtain ⟨os, hout, hos⟩ := hadds
    rwa [emitted_of_append s s' os hout]
  obtain ⟨-, rfl⟩ | ⟨f, now, rest, u, v, -, -, rfl, hexec, rfl⟩ | ⟨code, o, now, rest, v, -, hexec, rfl⟩ :=
    step_cases hstep
  · exact .refl s'.cfg s'
  · have htaken : Inv (setRxbuf f (setInbox rest s)) := hinv.congr rfl rfl rfl rfl
    have hadds : AddsFitting s.cfg (setRxbuf f (setInbox rest s)) v := rx_addsFitting htaken hexec
    exact hadds
  · obtain ⟨rc, vals, hout, -⟩ := cmd_answers hexec
    exact (AddsFitting.refl s.cfg s).reports hout rfl

end Sys2Proof

/-! PROOFS. What the model starts from (tier 1): O1 on CHECKSUM, O7 on the encoders, O10 on the table words, O48 and O49 on
the reset state, O51 on the step. -/

namespace Sys2Proof

open Machine

/-! ### The codec -/

/-- Settles O1: the checksum is a fold from `crcInit`, so one more byte is one more `crcStep`. -/
theorem checksumFoldsTableThenXor : Obligations.ChecksumFoldsTableThenXor := by
  intro s bs b
  refine ⟨rfl, checksum s.cfg bs, rfl, fun x hx => ?_⟩
  have hstep : checksum s.cfg (bs ++ [b]) = x ^^^ b := by
    rw [checksum_append, crcStep, List.getD_eq_getElem?_getD, hx, Option.getD_some]
  rw [← hstep]
  rfl

theorem exec_encodeRd (s : State) {r : TxRequest} (h : r.readable = true) :
    exec (.encodeRd r) s = .next (setTxbuf (encodeRd s.cfg r) s) :=
  whenWellFormed_next (.encodeRd r) s _ h

theorem exec_encodeWr (s : State) {r : TxRequest} (h : r.writable s.cfg = true) :
    exec (.encodeWr r) s = .next (setTxbuf (encodeWr s.cfg r) s) :=
  whenWellFormed_next (.encodeWr r) s _ h

/-- Settles O7: both requests meet their encoder's precondition, and the frames are the formats of 30_encoding.md R69, R70
and R72. -/
theorem encodersBuildHeaderPayloadChecksum : Obligations.EncodersBuildHeaderPayloadChecksum := by
  intro s r htype
  refine ⟨?_, ?_, rfl⟩
  · rintro n h haction hpayload rfl
    rw [exec_encodeRd s (readable_iff.2 ⟨haction, by simp [hpayload], htype⟩), encodeRd, hpayload]
    rfl
  · rintro h haction hpos hfit rfl
    rw [exec_encodeWr s (writable_iff.2 ⟨haction, hpos, hfit, htype⟩)]
    rfl

/-- Settles O10: each word is evaluated. -/
theorem tableWordsDecode : Obligations.TableWordsDecode := by
  unfold Obligations.TableWordsDecode
  decide

/-! ### Reset -/

/-- Settles O48: the reset state field by field. -/
theorem resetStateIsTheSpecs : Obligations.ResetStateIsTheSpecs :=
  ⟨fun _ => ⟨rfl, rfl, rfl, rfl, rfl, rfl, rfl, rfl, rfl⟩, rfl⟩

/-- An Idle engine with nothing queued and nothing registered meets the invariant under every legal configuration. -/
theorem resetOf_inv {c : Config} (hc : c.WF) : Inv (State.resetOf c) where
  cfg_ok := hc
  requests_ok := (QueueOk.nil c).requests_ok
  queue_bound := Nat.zero_le _
  in_flight := inFlight_of_idle rfl
  handler_bound := Nat.zero_le _
  handler_keys := List.nodup_nil

/-- The default configuration is legal: its table is a permutation, its initial burst is empty (00_scope.md R8). -/
theorem default_wf : Config.default.WF where
  crcLength := length_defaultCrcTable
  crcNodup := nodup_defaultCrcTable
  readReqLen_pos := by decide
  queueDepth_pos := by decide
  maxFrameLen_ge := by decide
  burst := fun _ hrow => absurd hrow List.not_mem_nil

/-- Settles O49: the reset state of a legal configuration, and the default configuration is legal. -/
theorem resetMeetsTheInvariant : Obligations.ResetMeetsTheInvariant :=
  ⟨fun _ hc => resetOf_inv hc, default_wf, resetOf_inv default_wf⟩

/-! ### The step -/

/-- A step is the operation its event decodes to, in the state with the event taken, and the end of the event. -/
theorem step_eq_next {s u : State} {e : Event} {rest : List Event} {i : Instr} (hinbox : s.inbox = e :: rest)
    (hdecodes : decodeEvent s.cfg s.txStatus s.q.head? e = .ok i) (hexec : exec i (takeEvent e rest s) = .next u) :
    step s = .next (endEvent u) := by
  rw [step_event s e rest i hinbox hdecodes, hexec]
  rfl

/-- Settles O51: either kind of event is taken, decoded, run and ended. -/
theorem stepRunsTheDecodedOperation : Obligations.StepRunsTheDecodedOperation := by
  intro s
  exact ⟨step_idle s, fun f now rest i u hinbox hdecodes hexec => step_eq_next hinbox hdecodes hexec,
    fun code o now rest i u hinbox hdecodes hexec => step_eq_next hinbox hdecodes hexec⟩

end Sys2Proof
